-- ==== Sys2Proof/Word.lean ====
section
/-! DEFINITION. The word types of the block: the widths that 10_state.md gives its ports and registers. -/

namespace Sys2Proof

/-- One byte of the image behind the Memory Reader (R54). -/
abbrev Byte := BitVec 8

/-- A 64-bit port or register: `req_vaddr`, `cfg_satp`, `mem_resp_data`, `rsp_paddr`, a trace register (R22, R23, R32). -/
abbrev Word64 := BitVec 64

/-- A frame number: `c_root` and `w_frame` are 44 bits wide (R28, R30). -/
abbrev Frame := BitVec 44

/-- A PTE address: `mem_req_addr` is 56 bits wide (R23, R163). -/
abbrev PteAddress := BitVec 56

end Sys2Proof
end

