-- ==== Sys2Proof/Config.lean ====
section
/-! DEFINITION. What an implementation fixes (00_scope.md section 4), for both ISA widths.
The constants that depend on the ISA width are in Machine/Params.lean. -/

namespace Sys2Proof

/-- The parameter `RSVD_PRIV_BEHAVIOUR` of R9: what a request at the reserved privilege level 2 does. -/
inductive RsvdBehaviour where
  /-- The request is translated as identity, like one at `M` (R141); the default. -/
  | identity
  /-- The request is outside the contract and the model refuses it (U8, D8). -/
  | refuse
  deriving DecidableEq, Repr

/-- The default R9 gives for `RSVD_PRIV_BEHAVIOUR`. -/
def Config.rsvdPrivDefault : RsvdBehaviour := .identity

/-- `PAGE_SIZE`, 4096 bytes for both ISA widths (R7). -/
def Config.pageSize : Nat := 4096

end Sys2Proof
end

