-- ==== Sys2Proof/Syntax.lean ====
section
/-! DEFINITION. The block's syntax: the enumerations of 30_encoding.md section 3 that its operations name, and one
constructor of `Instr` for each row of opcode_table.json. -/

namespace Sys2Proof

/-- ISA width (R7, R82): selects the Sv32 or the Sv39 formats. -/
inductive Isa where
  | rv32
  | rv64
  deriving DecidableEq, Repr

/-- Purpose of a request (R80), in the order of its codes 0 to 3. -/
inductive Purpose where
  | fetch
  | load
  | storeamo
  | deleg
  deriving DecidableEq, Repr

/-- Privilege level of a request (R81), in the order of its codes 0 to 3. -/
inductive Priv where
  | u
  | s
  | rsvd
  | m
  deriving DecidableEq, Repr

/-- What the block decodes. Four formats (R88, R89):
`REQ`, a request with its privilege level and virtual address (the address is on its own port, not in the command word);
`SATP32` and `SATP64`, the root register, with its ignored field and its frame-number field (R25, R26);
`PTE`, a received PTE word, the operand being the whole word on `mem_resp_data` (R109). -/
inductive Instr where
  /-- `TRANSLATE.FETCH` (R144). -/
  | translateFetch (priv : Priv) (vaddr : Word64)
  /-- `TRANSLATE.LOAD` (R145). -/
  | translateLoad (priv : Priv) (vaddr : Word64)
  /-- `TRANSLATE.STOREAMO` (R146). -/
  | translateStoreamo (priv : Priv) (vaddr : Word64)
  /-- `TRANSLATE.DELEG` (R147). -/
  | translateDeleg (priv : Priv) (vaddr : Word64)
  /-- `SATP32.BARE` (R25, R120). -/
  | satp32Bare (ignored : BitVec 9) (ppn : BitVec 22)
  /-- `SATP32.SV32` (R25, R120). -/
  | satp32Sv32 (ignored : BitVec 9) (ppn : BitVec 22)
  /-- `SATP64.BARE` (R26, R121). -/
  | satp64Bare (ignored : BitVec 16) (ppn : BitVec 44)
  /-- `SATP64.UNSUPPORTED_MODE_1` (R121, R123). -/
  | satp64Unsupported1 (ignored : BitVec 16) (ppn : BitVec 44)
  /-- `SATP64.UNSUPPORTED_MODE_2` (R121, R123). -/
  | satp64Unsupported2 (ignored : BitVec 16) (ppn : BitVec 44)
  /-- `SATP64.UNSUPPORTED_MODE_3` (R121, R123). -/
  | satp64Unsupported3 (ignored : BitVec 16) (ppn : BitVec 44)
  /-- `SATP64.UNSUPPORTED_MODE_4` (R121, R123). -/
  | satp64Unsupported4 (ignored : BitVec 16) (ppn : BitVec 44)
  /-- `SATP64.UNSUPPORTED_MODE_5` (R121, R123). -/
  | satp64Unsupported5 (ignored : BitVec 16) (ppn : BitVec 44)
  /-- `SATP64.UNSUPPORTED_MODE_6` (R121, R123). -/
  | satp64Unsupported6 (ignored : BitVec 16) (ppn : BitVec 44)
  /-- `SATP64.UNSUPPORTED_MODE_7` (R121, R123). -/
  | satp64Unsupported7 (ignored : BitVec 16) (ppn : BitVec 44)
  /-- `SATP64.SV39` (R26, R121). -/
  | satp64Sv39 (ignored : BitVec 16) (ppn : BitVec 44)
  /-- `SATP64.UNSUPPORTED_MODE_9` (R121, R123). -/
  | satp64Unsupported9 (ignored : BitVec 16) (ppn : BitVec 44)
  /-- `SATP64.UNSUPPORTED_MODE_10` (R121, R123). -/
  | satp64Unsupported10 (ignored : BitVec 16) (ppn : BitVec 44)
  /-- `SATP64.UNSUPPORTED_MODE_11` (R121, R123). -/
  | satp64Unsupported11 (ignored : BitVec 16) (ppn : BitVec 44)
  /-- `SATP64.UNSUPPORTED_MODE_12` (R121, R123). -/
  | satp64Unsupported12 (ignored : BitVec 16) (ppn : BitVec 44)
  /-- `SATP64.UNSUPPORTED_MODE_13` (R121, R123). -/
  | satp64Unsupported13 (ignored : BitVec 16) (ppn : BitVec 44)
  /-- `SATP64.UNSUPPORTED_MODE_14` (R121, R123). -/
  | satp64Unsupported14 (ignored : BitVec 16) (ppn : BitVec 44)
  /-- `SATP64.UNSUPPORTED_MODE_15` (R121, R123). -/
  | satp64Unsupported15 (ignored : BitVec 16) (ppn : BitVec 44)
  /-- `PTE.INVALID`, `V` = 0 (R180). -/
  | pteInvalid (data : Word64)
  /-- `PTE.RESERVED_WNR`, `V` = 1, `W` = 1, `R` = 0 (R181). -/
  | pteReservedWnr (data : Word64)
  /-- `PTE.POINTER`, `V` = 1, `X` = `W` = `R` = 0 (R108). -/
  | ptePointer (data : Word64)
  /-- `PTE.LEAF_R`, `V` = 1, `R` = 1 (R108). -/
  | pteLeafR (data : Word64)
  /-- `PTE.LEAF_XO`, `V` = 1, `X` = 1, `W` = `R` = 0 (R108). -/
  | pteLeafXo (data : Word64)
  deriving DecidableEq, Repr

end Sys2Proof
end

