-- ==== Sys2Proof/WellFormed.lean ====
section
/-! DEFINITION. Well-formedness of an instruction as syntax.
The operands of `REQ`, `SATP32` and `SATP64` rows are typed by their exact widths, so every such term is well formed.
The operand of a `PTE` row is the whole received word, so a term of that format is well formed when the word's bits 3:0
match the row of opcode_table.json (mask and match of format `PTE`, R76, R108). -/

namespace Sys2Proof

/-- Whether the operand of a `PTE` row has the bits that the row fixes; no other row fixes a bit of its operands. -/
def Instr.wf : Instr → Bool
  | .translateFetch _ _ => true
  | .translateLoad _ _ => true
  | .translateStoreamo _ _ => true
  | .translateDeleg _ _ => true
  | .satp32Bare _ _ => true
  | .satp32Sv32 _ _ => true
  | .satp64Bare _ _ => true
  | .satp64Unsupported1 _ _ => true
  | .satp64Unsupported2 _ _ => true
  | .satp64Unsupported3 _ _ => true
  | .satp64Unsupported4 _ _ => true
  | .satp64Unsupported5 _ _ => true
  | .satp64Unsupported6 _ _ => true
  | .satp64Unsupported7 _ _ => true
  | .satp64Sv39 _ _ => true
  | .satp64Unsupported9 _ _ => true
  | .satp64Unsupported10 _ _ => true
  | .satp64Unsupported11 _ _ => true
  | .satp64Unsupported12 _ _ => true
  | .satp64Unsupported13 _ _ => true
  | .satp64Unsupported14 _ _ => true
  | .satp64Unsupported15 _ _ => true
  | .pteInvalid data => data.extractLsb' 0 1 == 0x0#1
  | .pteReservedWnr data => data.extractLsb' 0 3 == 0x5#3
  | .ptePointer data => data.extractLsb' 0 4 == 0x1#4
  | .pteLeafR data => data.extractLsb' 0 2 == 0x3#2
  | .pteLeafXo data => data.extractLsb' 0 4 == 0x9#4

end Sys2Proof
end

