-- ==== Sys2Proof/Decode.lean ====
section
/-! DEFINITION. The decoder and, after it, the encoder, both from the encodings of 30_encoding.md and 10_state.md.
Decoding is total on every word of every format: no command word is illegal (R88), every root-register word is a row
(R25, R26) and every PTE word is in one class (R76). What the table numbering can hand over and no format can hold
(a word wider than its format, a width no format has) is rejected by name. -/

namespace Sys2Proof

/-! ## Enumerations (30_encoding.md section 3) -/

/-- Purpose codes (R80). -/
def Purpose.ofCode (c : BitVec 2) : Purpose :=
  match c with
  | 0x0#2 => .fetch
  | 0x1#2 => .load
  | 0x2#2 => .storeamo
  | _ => .deleg

/-- Purpose codes (R80). -/
def Purpose.code : Purpose → BitVec 2
  | .fetch => 0
  | .load => 1
  | .storeamo => 2
  | .deleg => 3

/-- Privilege codes (R81). -/
def Priv.ofCode (c : BitVec 2) : Priv :=
  match c with
  | 0x0#2 => .u
  | 0x1#2 => .s
  | 0x2#2 => .rsvd
  | _ => .m

/-- Privilege codes (R81). -/
def Priv.code : Priv → BitVec 2
  | .u => 0
  | .s => 1
  | .rsvd => 2
  | .m => 3

/-- ISA select codes (R82). -/
def Isa.code : Isa → BitVec 1
  | .rv32 => 0
  | .rv64 => 1

/-! ## Words on the ports -/

/-- A word the block decodes, by the port it stands on (R88, R89): the command word with the address port beside it,
the root register in its two widths, a PTE word. -/
inductive PortWord where
  | req (cmd : BitVec 4) (vaddr : Word64)
  | root32 (satp : BitVec 32)
  | root64 (satp : Word64)
  | pte (data : Word64)
  deriving DecidableEq, Repr

/-! ## Decoder -/

/-- The operation of a purpose (R88). -/
def requestInstr (purpose : Purpose) (priv : Priv) (vaddr : Word64) : Instr :=
  match purpose with
  | .fetch => .translateFetch priv vaddr
  | .load => .translateLoad priv vaddr
  | .storeamo => .translateStoreamo priv vaddr
  | .deleg => .translateDeleg priv vaddr

/-- Command word: bits 3:2 privilege, bits 1:0 purpose (R88). -/
def decodeReq (cmd : BitVec 4) (vaddr : Word64) : Instr :=
  requestInstr (Purpose.ofCode (cmd.extractLsb' 0 2)) (Priv.ofCode (cmd.extractLsb' 2 2)) vaddr

/-- Root register under RV32: MODE is bit 31, bits 30:22 ignored, PPN bits 21:0 (R25). -/
def decodeRoot32 (satp : BitVec 32) : Instr :=
  if satp.getLsbD 31 then .satp32Sv32 (satp.extractLsb' 22 9) (satp.extractLsb' 0 22)
  else .satp32Bare (satp.extractLsb' 22 9) (satp.extractLsb' 0 22)

/-- The `SATP64` row of a MODE value (R26). -/
def rootRow64 (mode : BitVec 4) (ignored : BitVec 16) (ppn : BitVec 44) : Instr :=
  match mode with
  | 0x0#4 => .satp64Bare ignored ppn
  | 0x1#4 => .satp64Unsupported1 ignored ppn
  | 0x2#4 => .satp64Unsupported2 ignored ppn
  | 0x3#4 => .satp64Unsupported3 ignored ppn
  | 0x4#4 => .satp64Unsupported4 ignored ppn
  | 0x5#4 => .satp64Unsupported5 ignored ppn
  | 0x6#4 => .satp64Unsupported6 ignored ppn
  | 0x7#4 => .satp64Unsupported7 ignored ppn
  | 0x8#4 => .satp64Sv39 ignored ppn
  | 0x9#4 => .satp64Unsupported9 ignored ppn
  | 0xA#4 => .satp64Unsupported10 ignored ppn
  | 0xB#4 => .satp64Unsupported11 ignored ppn
  | 0xC#4 => .satp64Unsupported12 ignored ppn
  | 0xD#4 => .satp64Unsupported13 ignored ppn
  | 0xE#4 => .satp64Unsupported14 ignored ppn
  | _ => .satp64Unsupported15 ignored ppn

/-- Root register under RV64: MODE is bits 63:60, bits 59:44 ignored, PPN bits 43:0 (R26). -/
def decodeRoot64 (satp : Word64) : Instr :=
  rootRow64 (satp.extractLsb' 60 4) (satp.extractLsb' 44 16) (satp.extractLsb' 0 44)

/-- Class of a PTE word by `V` (bit 0), `R` (bit 1), `W` (bit 2) and `X` (bit 3) (R76). -/
def decodePte (data : Word64) : Instr :=
  if data.getLsbD 0 then
    if data.getLsbD 1 then .pteLeafR data
    else if data.getLsbD 2 then .pteReservedWnr data
    else if data.getLsbD 3 then .pteLeafXo data
    else .ptePointer data
  else .pteInvalid data

/-- The row of the word on the root-register port, by the ISA width presented with it (R25, R26, R89). -/
def decodeRoot (isa : Isa) (satp : Word64) : Instr :=
  match isa with
  | .rv32 => decodeRoot32 (satp.extractLsb' 0 32)
  | .rv64 => decodeRoot64 satp

/-- The instruction a port word stands for. -/
def decode : PortWord → Instr
  | .req cmd vaddr => decodeReq cmd vaddr
  | .root32 satp => decodeRoot32 satp
  | .root64 satp => decodeRoot64 satp
  | .pte data => decodePte data

/-! ## The opcode table's numbering -/

/-- Why a table word is no port word. -/
inductive DecodeReject where
  /-- The word has bits above the 4-bit command word (R92: one request format of fixed width). -/
  | aboveCommandWord
  /-- The word has bits above its root-register width. -/
  | aboveRootWord
  /-- No format of the table that the width selects has this width. -/
  | noSuchFormat
  deriving DecidableEq, Repr

/-- The port word of a table word of `nbits` bits (whole bytes). 8 bits: the command word of a request, `vaddr` zero, since
the table gives the address no bits. 32 and 64 bits: the root register. The formats `REQ` and `PTE` are both 4 bits wide and
share words; which of the two a word is depends on the walker's state, and here it is read as the request it is in `IDLE`
(DESIGN CHOICE, log entry 13). -/
def tableWord (nbits w : Nat) : Except DecodeReject PortWord :=
  if nbits = 8 then
    if w < 2 ^ 4 then .ok (.req (BitVec.ofNat 4 w) 0) else .error .aboveCommandWord
  else if nbits = 32 then
    if w < 2 ^ 32 then .ok (.root32 (BitVec.ofNat 32 w)) else .error .aboveRootWord
  else if nbits = 64 then
    if w < 2 ^ 64 then .ok (.root64 (BitVec.ofNat 64 w)) else .error .aboveRootWord
  else .error .noSuchFormat

/-- The decoder on the opcode table's numbering: none where the decoder rejects. -/
def decodeTableWord (nbits w : Nat) : Option Instr :=
  match tableWord nbits w with
  | .ok p => some (decode p)
  | .error _ => none

/-! ## Encoder -/

/-- The root register of a `SATP64` row (R26). -/
def encodeRoot64 (mode : BitVec 4) (ignored : BitVec 16) (ppn : BitVec 44) : PortWord :=
  .root64 (mode ++ ignored ++ ppn)

/-- The port word of an instruction, from R25, R26, R88 and the mask and match of opcode_table.json. -/
def encode : Instr → PortWord
  | .translateFetch priv vaddr => .req (priv.code ++ 0x0#2) vaddr
  | .translateLoad priv vaddr => .req (priv.code ++ 0x1#2) vaddr
  | .translateStoreamo priv vaddr => .req (priv.code ++ 0x2#2) vaddr
  | .translateDeleg priv vaddr => .req (priv.code ++ 0x3#2) vaddr
  | .satp32Bare ignored ppn => .root32 (0x0#1 ++ ignored ++ ppn)
  | .satp32Sv32 ignored ppn => .root32 (0x1#1 ++ ignored ++ ppn)
  | .satp64Bare ignored ppn => encodeRoot64 0x0 ignored ppn
  | .satp64Unsupported1 ignored ppn => encodeRoot64 0x1 ignored ppn
  | .satp64Unsupported2 ignored ppn => encodeRoot64 0x2 ignored ppn
  | .satp64Unsupported3 ignored ppn => encodeRoot64 0x3 ignored ppn
  | .satp64Unsupported4 ignored ppn => encodeRoot64 0x4 ignored ppn
  | .satp64Unsupported5 ignored ppn => encodeRoot64 0x5 ignored ppn
  | .satp64Unsupported6 ignored ppn => encodeRoot64 0x6 ignored ppn
  | .satp64Unsupported7 ignored ppn => encodeRoot64 0x7 ignored ppn
  | .satp64Sv39 ignored ppn => encodeRoot64 0x8 ignored ppn
  | .satp64Unsupported9 ignored ppn => encodeRoot64 0x9 ignored ppn
  | .satp64Unsupported10 ignored ppn => encodeRoot64 0xA ignored ppn
  | .satp64Unsupported11 ignored ppn => encodeRoot64 0xB ignored ppn
  | .satp64Unsupported12 ignored ppn => encodeRoot64 0xC ignored ppn
  | .satp64Unsupported13 ignored ppn => encodeRoot64 0xD ignored ppn
  | .satp64Unsupported14 ignored ppn => encodeRoot64 0xE ignored ppn
  | .satp64Unsupported15 ignored ppn => encodeRoot64 0xF ignored ppn
  | .pteInvalid data => .pte data
  | .pteReservedWnr data => .pte data
  | .ptePointer data => .pte data
  | .pteLeafR data => .pte data
  | .pteLeafXo data => .pte data

/-! ## The opcode table as data -/

/-- The four formats of opcode_table.json. -/
inductive Format where
  | req
  | satp32
  | satp64
  | pte
  deriving DecidableEq, Repr

/-- A row of opcode_table.json: the bits its mask fixes and their values. -/
structure TableRow where
  format : Format
  mask : Word64
  value : Word64
  deriving DecidableEq, Repr

/-- The row of each constructor, mask and match as opcode_table.json writes them. -/
def Instr.row : Instr → TableRow
  | .translateFetch _ _ => ⟨.req, 0x3, 0x0⟩
  | .translateLoad _ _ => ⟨.req, 0x3, 0x1⟩
  | .translateStoreamo _ _ => ⟨.req, 0x3, 0x2⟩
  | .translateDeleg _ _ => ⟨.req, 0x3, 0x3⟩
  | .satp32Bare _ _ => ⟨.satp32, 0x80000000, 0x00000000⟩
  | .satp32Sv32 _ _ => ⟨.satp32, 0x80000000, 0x80000000⟩
  | .satp64Bare _ _ => ⟨.satp64, 0xF000000000000000, 0x0000000000000000⟩
  | .satp64Unsupported1 _ _ => ⟨.satp64, 0xF000000000000000, 0x1000000000000000⟩
  | .satp64Unsupported2 _ _ => ⟨.satp64, 0xF000000000000000, 0x2000000000000000⟩
  | .satp64Unsupported3 _ _ => ⟨.satp64, 0xF000000000000000, 0x3000000000000000⟩
  | .satp64Unsupported4 _ _ => ⟨.satp64, 0xF000000000000000, 0x4000000000000000⟩
  | .satp64Unsupported5 _ _ => ⟨.satp64, 0xF000000000000000, 0x5000000000000000⟩
  | .satp64Unsupported6 _ _ => ⟨.satp64, 0xF000000000000000, 0x6000000000000000⟩
  | .satp64Unsupported7 _ _ => ⟨.satp64, 0xF000000000000000, 0x7000000000000000⟩
  | .satp64Sv39 _ _ => ⟨.satp64, 0xF000000000000000, 0x8000000000000000⟩
  | .satp64Unsupported9 _ _ => ⟨.satp64, 0xF000000000000000, 0x9000000000000000⟩
  | .satp64Unsupported10 _ _ => ⟨.satp64, 0xF000000000000000, 0xA000000000000000⟩
  | .satp64Unsupported11 _ _ => ⟨.satp64, 0xF000000000000000, 0xB000000000000000⟩
  | .satp64Unsupported12 _ _ => ⟨.satp64, 0xF000000000000000, 0xC000000000000000⟩
  | .satp64Unsupported13 _ _ => ⟨.satp64, 0xF000000000000000, 0xD000000000000000⟩
  | .satp64Unsupported14 _ _ => ⟨.satp64, 0xF000000000000000, 0xE000000000000000⟩
  | .satp64Unsupported15 _ _ => ⟨.satp64, 0xF000000000000000, 0xF000000000000000⟩
  | .pteInvalid _ => ⟨.pte, 0x1, 0x0⟩
  | .pteReservedWnr _ => ⟨.pte, 0x7, 0x5⟩
  | .ptePointer _ => ⟨.pte, 0xF, 0x1⟩
  | .pteLeafR _ => ⟨.pte, 0x3, 0x3⟩
  | .pteLeafXo _ => ⟨.pte, 0xF, 0x9⟩

/-- The format and the bits of a port word, zero-extended to 64. -/
def PortWord.bits : PortWord → Format × Word64
  | .req cmd _ => (.req, cmd.setWidth 64)
  | .root32 satp => (.satp32, satp.setWidth 64)
  | .root64 satp => (.satp64, satp)
  | .pte data => (.pte, data)

/-- Whether a port word has the format of a row and the values of the bits the row fixes. -/
def TableRow.admits (r : TableRow) (p : PortWord) : Bool :=
  p.bits.1 == r.format && p.bits.2 &&& r.mask == r.value

end Sys2Proof
end

