-- ==== Sys2Proof/Machine/State.lean ====
section
/-! DEFINITION. The state of the machine as plain data: the registers of 10_state.md section 3 (`Walker`), the input ports
of R22 (`Inputs`), and the environment the walker steps in. -/

namespace Sys2Proof.Machine

/-- Decoded translation mode `c_mode` (R83). The value 3 is never written (R83, U12) and has no constructor. -/
inductive Mode where
  | bare
  | sv32
  | sv39
  deriving DecidableEq, Repr

/-- Walker state `fsm` (R29, R84). -/
inductive Fsm where
  | idle
  | issue
  | wait
  | resp
  deriving DecidableEq, Repr

/-- Response kind `r_kind` (R33, R85). The value 3 is never driven and has no constructor. -/
inductive RspKind where
  | ok
  | fault
  | configError
  deriving DecidableEq, Repr

/-- Diagnostic sub-reason `r_diag` (R86), in the order of its codes 0 to 13. The codes 14 and 15 are never driven. -/
inductive Diag where
  | none
  | unsupportedMode
  | memReadError
  | pteInvalid
  | pteReservedWnr
  | noLeaf
  | accessedClear
  | userDenied
  | execDenied
  | sumDenied
  | readDenied
  | writeDenied
  | dirtyClear
  | misalignedSuperpage
  deriving DecidableEq, Repr

/-- The registers of the block (10_state.md sections 3.2 to 3.5). -/
structure Walker where
  /-- Sequencing state (R29). -/
  fsm : Fsm
  /-- Request latch (R27). -/
  qPurpose : Purpose
  /-- Request latch (R27). -/
  qPriv : Priv
  /-- Request latch (R27). -/
  qVaddr : Word64
  /-- Configuration snapshot (R28). -/
  cIsa : Isa
  /-- Configuration snapshot (R28). -/
  cMode : Mode
  /-- Configuration snapshot (R28). -/
  cRoot : Frame
  /-- Configuration snapshot (R28). -/
  cSum : Bool
  /-- Configuration snapshot (R28). -/
  cMxr : Bool
  /-- Level of the PTE being read (R30). -/
  wLevel : BitVec 2
  /-- Frame of the table being read (R30). -/
  wFrame : Frame
  /-- PTE reads answered in this request (R31). -/
  wReads : BitVec 2
  /-- Trace: PTE word read at level 0 (R32). -/
  tPte0 : Word64
  /-- Trace: PTE word read at level 1 (R32). -/
  tPte1 : Word64
  /-- Trace: PTE word read at level 2 (R32). -/
  tPte2 : Word64
  /-- Trace: bit `l` says that the PTE of level `l` was read (R32). -/
  tValid : BitVec 3
  /-- Response register (R33). -/
  rKind : RspKind
  /-- Response register (R33). -/
  rPaddr : Word64
  /-- Response register (R33, R221). -/
  rCause : BitVec 4
  /-- Response register (R33, R86). -/
  rDiag : Diag
  /-- Response register (R33). -/
  rLevel : BitVec 2
  /-- Response register (R33). -/
  rLeafPte : Word64
  /-- Sticky configuration-error flag (R35). -/
  sFatalCfg : Bool
  deriving DecidableEq, Repr

/-- Every register at its reset value (R39). -/
def Walker.reset : Walker where
  fsm := .idle
  qPurpose := .fetch
  qPriv := .u
  qVaddr := 0
  cIsa := .rv32
  cMode := .bare
  cRoot := 0
  cSum := false
  cMxr := false
  wLevel := 0
  wFrame := 0
  wReads := 0
  tPte0 := 0
  tPte1 := 0
  tPte2 := 0
  tValid := 0
  rKind := .ok
  rPaddr := 0
  rCause := 0
  rDiag := .none
  rLevel := 0
  rLeafPte := 0
  sFatalCfg := false

/-- The byte image behind the Memory Reader (R54): (address, byte) pairs, addresses strictly rising. A byte that is not
listed cannot be read, and a PTE read that takes in one is answered `ReadError` (R59, R93). -/
abbrev Memory := List Host.Cell

/-- The values on the input ports in one step (R22), and two values of the model's own (log entries 3 and 4). -/
structure Inputs where
  rst : Bool
  reqValid : Bool
  reqPurpose : BitVec 2
  reqPriv : BitVec 2
  reqVaddr : Word64
  cfgIsa : Isa
  cfgSatp : Word64
  cfgSum : Bool
  cfgMxr : Bool
  memReqReady : Bool
  memRespValid : Bool
  memRespData : Word64
  memRespErr : Bool
  rspReady : Bool
  /-- The response presented is the byte image's answer, not the draw on `memRespData` and `memRespErr` (log entry 3). -/
  memRespFromImage : Bool
  /-- Bytes that agents other than the block store in this step (R62, log entry 4). -/
  envStores : List (Word64 × Byte)
  deriving DecidableEq, Repr

/-- Every input 0: nothing is presented, taken or answered. -/
def Inputs.quiet : Inputs where
  rst := false
  reqValid := false
  reqPurpose := 0
  reqPriv := 0
  reqVaddr := 0
  cfgIsa := .rv32
  cfgSatp := 0
  cfgSum := false
  cfgMxr := false
  memReqReady := false
  memRespValid := false
  memRespData := 0
  memRespErr := false
  rspReady := false
  memRespFromImage := false
  envStores := []

/-- The event `ReadIssued(addr, PTESIZE, w_level)` of R167. -/
structure ReadIssued where
  addr : PteAddress
  size : Nat
  level : BitVec 2
  deriving DecidableEq, Repr

/-- The machine: the block's registers, the inputs of this step and of the steps to come, the image behind the Memory Reader,
the history of issued reads, and the parameter `RSVD_PRIV_BEHAVIOUR`. -/
structure State where
  /-- The registers of the block. -/
  w : Walker
  /-- The input ports in this step (R22). -/
  inp : Inputs
  /-- The input ports in the steps to come; every input 0 once it is empty (log entry 1). -/
  sched : List Inputs
  /-- The byte image behind the Memory Reader (R54). -/
  mem : Memory
  /-- Issued reads, newest first (R167). -/
  hist : List ReadIssued
  /-- The parameter `RSVD_PRIV_BEHAVIOUR` (R9); no step changes it (log entry 5). -/
  rsvdPriv : RsvdBehaviour
  deriving DecidableEq, Repr

/-- The machine after reset: the registers as R39 says; the environment quiet (log entries 1, 3, 5 and 6). -/
def State.reset : State where
  w := Walker.reset
  inp := Inputs.quiet
  sched := []
  mem := []
  hist := []
  rsvdPriv := Config.rsvdPrivDefault

/-- The machine stops with a fault. The spec gives the block none: every failure of a request is a response (R220). -/
inductive Fault where
  /-- A walk step at a level the ISA width does not have (R100, R101: such a `Vpn` "is never asked by any rule"). Raised by the
  issue step and by the `PTE` rows; no run from reset reaches it (R161). Safe: the model stops. -/
  | levelOutOfRange
  deriving DecidableEq, Repr

/-- The model gives the step no meaning. -/
inductive Refusal where
  /-- Raised by an arm of `exec` whose instruction has no meaning yet; no arm is one. Safe. -/
  | notModelled (mnemonic : String)
  /-- A memory response while the walker does not wait for one (U6, D22: a model refuses the run). Raised by the step before any
  instruction runs, and by the `PTE` rows. Safe. -/
  | memResponseOutsideWait
  /-- An RV32 request with a nonzero `req_vaddr[63:32]` (R47, U7: a model refuses it). Raised by the `TRANSLATE` rows. Safe. -/
  | rv32HighVaddr
  /-- A request at the reserved privilege level when `RSVD_PRIV_BEHAVIOUR` is `REFUSE` (R9, U8, D8). Raised by the `TRANSLATE`
  rows. Safe. -/
  | rsvdPrivRefused
  deriving DecidableEq, Repr

/-- The outcome of a step of this machine. -/
abbrev Result := Host.Outcome State Fault Refusal

end Sys2Proof.Machine
end

