-- ==== Sys2Proof/Machine/Params.lean ====
section
/-! DEFINITION. The constants that the ISA width fixes (R7). -/

namespace Sys2Proof.Machine

/-- `PTESIZE`: bytes of a PTE (R7). -/
def ptesize : Isa → Nat
  | .rv32 => 4
  | .rv64 => 8

/-- `LEVELS`: levels of a walk (R7). -/
def levels : Isa → Nat
  | .rv32 => 2
  | .rv64 => 3

/-- The top level index `LEVELS - 1` as `w_level` holds it (R7, R30). -/
def topLevel : Isa → BitVec 2
  | .rv32 => 1
  | .rv64 => 2

/-- `VPNBITS`: bits of a VPN field (R7). -/
def vpnBits : Isa → Nat
  | .rv32 => 10
  | .rv64 => 9

/-- `PPNBITS`: bits of a root frame number (R7). -/
def ppnBits : Isa → Nat
  | .rv32 => 22
  | .rv64 => 44

/-- `PABITS`: bits of a walked physical address (R7). -/
def paBits : Isa → Nat
  | .rv32 => 34
  | .rv64 => 56

/-- The translating mode of an ISA width (R2). -/
def walkMode : Isa → Mode
  | .rv32 => .sv32
  | .rv64 => .sv39

end Sys2Proof.Machine
end

