-- ==== Sys2Proof/Machine/Operands.lean ====
section
/-! DEFINITION. Operand assembly (R90): the VA decomposer (R100 to R103), the PPN side of the PTE parser (R105 to R107, R109),
the PTE address (R162), the root-register decode (R120, R121) and the physical address (R190). Pure functions, total on every
input. A PTE word is 64 bits wide everywhere: under RV32 it is the 32-bit word zero-extended (R109). -/

namespace Sys2Proof.Machine

/-! ## VA decomposer -/

/-- `Vpn(RV32, va, i)` (R100): VPN[1] is bits 31:22, VPN[0] bits 21:12. -/
def vpn32 (va : Word64) (i : Nat) : BitVec 10 := va.extractLsb' (12 + 10 * i) 10

/-- `Vpn(RV64, va, i)` (R101): VPN[2] is bits 38:30, VPN[1] bits 29:21, VPN[0] bits 20:12. -/
def vpn39 (va : Word64) (i : Nat) : BitVec 9 := va.extractLsb' (12 + 9 * i) 9

/-- `Vpn(isa, va, i)` as a natural number (R10). -/
def vpn (isa : Isa) (va : Word64) (i : Nat) : Nat :=
  match isa with
  | .rv32 => (vpn32 va i).toNat
  | .rv64 => (vpn39 va i).toNat

/-- `Offset(va)` (R102). -/
def offset (va : Word64) : BitVec 12 := va.extractLsb' 0 12

/-! ## PTE parser: words and frame numbers -/

/-- `PteWord(isa, data)` zero-extended to 64 bits (R109). -/
def pteWord (isa : Isa) (data : Word64) : Word64 :=
  match isa with
  | .rv32 => (data.extractLsb' 0 32).setWidth 64
  | .rv64 => data

/-- `Ppn(RV32, pte, 0)`: bits 19:10 (R105). -/
def ppn0Sv32 (pte : Word64) : BitVec 10 := pte.extractLsb' 10 10

/-- `Ppn(RV32, pte, 1)`: bits 31:20 (R105). -/
def ppn1Sv32 (pte : Word64) : BitVec 12 := pte.extractLsb' 20 12

/-- `Ppn(RV64, pte, 0)`: bits 18:10 (R106). -/
def ppn0Sv39 (pte : Word64) : BitVec 9 := pte.extractLsb' 10 9

/-- `Ppn(RV64, pte, 1)`: bits 27:19 (R106). -/
def ppn1Sv39 (pte : Word64) : BitVec 9 := pte.extractLsb' 19 9

/-- `Ppn(RV64, pte, 2)`: bits 53:28, bits 63:54 ignored (R106). -/
def ppn2Sv39 (pte : Word64) : BitVec 26 := pte.extractLsb' 28 26

/-- `Ppn(isa, pte, i)` as a natural number; Sv32 has no segment 2 and neither has a segment 3 (R105, R106). -/
def ppn (isa : Isa) (pte : Word64) (i : Nat) : Nat :=
  match isa, i with
  | .rv32, 0 => (ppn0Sv32 pte).toNat
  | .rv32, 1 => (ppn1Sv32 pte).toNat
  | .rv64, 0 => (ppn0Sv39 pte).toNat
  | .rv64, 1 => (ppn1Sv39 pte).toNat
  | .rv64, 2 => (ppn2Sv39 pte).toNat
  | _, _ => 0

/-- `PtePpn(isa, pte)`: the frame number a pointer PTE names, its PPN segments put together (R77, R107). -/
def ptePpn (isa : Isa) (pte : Word64) : Frame :=
  match isa with
  | .rv32 => (ppn1Sv32 pte ++ ppn0Sv32 pte).setWidth 44
  | .rv64 => ppn2Sv39 pte ++ ppn1Sv39 pte ++ ppn0Sv39 pte

/-! ## PTE address -/

/-- `PteAddr(isa, frame, vaddr, level)`, computed on natural numbers as R162 writes it and put on the 56-bit port (R23). -/
def pteAddr (isa : Isa) (frame : Frame) (va : Word64) (level : Nat) : PteAddress :=
  BitVec.ofNat 56 (frame.toNat * Config.pageSize + vpn isa va level * ptesize isa)

/-! ## Root register -/

/-- `RefreshConfig(isa, satp)`: the mode and the root frame, or none for a configuration error (R120, R121). -/
def refreshConfig (isa : Isa) (satp : Word64) : Option (Mode × Frame) :=
  match isa with
  | .rv32 => some (if satp.getLsbD 31 then .sv32 else .bare, (satp.extractLsb' 0 22).setWidth 44)
  | .rv64 =>
    if satp.extractLsb' 60 4 = 0x0#4 then some (.bare, satp.extractLsb' 0 44)
    else if satp.extractLsb' 60 4 = 0x8#4 then some (.sv39, satp.extractLsb' 0 44)
    else none

/-! ## Address reconstruction -/

/-- `PhysAddr(RV32, pte, level, vaddr)`: 34 bits, segments at bits 22 and 12 (R190). -/
def physAddrSv32 (pte : Word64) (level : Nat) (va : Word64) : BitVec 34 :=
  ppn1Sv32 pte ++ (if level ≥ 1 then vpn32 va 0 else ppn0Sv32 pte) ++ offset va

/-- `PhysAddr(RV64, pte, level, vaddr)`: 56 bits, segments at bits 30, 21 and 12 (R190). -/
def physAddrSv39 (pte : Word64) (level : Nat) (va : Word64) : BitVec 56 :=
  ppn2Sv39 pte ++ (if level ≥ 2 then vpn39 va 1 else ppn1Sv39 pte) ++ (if level ≥ 1 then vpn39 va 0 else ppn0Sv39 pte) ++ offset va

/-- `PhysAddr` zero-extended to 64 bits, never truncated (R190). -/
def physAddr (isa : Isa) (pte : Word64) (level : Nat) (va : Word64) : Word64 :=
  match isa with
  | .rv32 => (physAddrSv32 pte level va).setWidth 64
  | .rv64 => (physAddrSv39 pte level va).setWidth 64

end Sys2Proof.Machine
end

