-- ==== Sys2Proof/Machine/Flags.lean ====
section
/-! DEFINITION. The flags of a PTE (R104), the class predicates (R108), the leaf checks (R182) and the fault cause (R221).
The block has no condition codes of its own (R36). -/

namespace Sys2Proof.Machine

/-! ## Flag accessors (R104) -/

/-- Valid, bit 0. -/
def flagV (pte : Word64) : Bool := pte.getLsbD 0

/-- Readable, bit 1. -/
def flagR (pte : Word64) : Bool := pte.getLsbD 1

/-- Writable, bit 2. -/
def flagW (pte : Word64) : Bool := pte.getLsbD 2

/-- Executable, bit 3. -/
def flagX (pte : Word64) : Bool := pte.getLsbD 3

/-- User-accessible, bit 4. -/
def flagU (pte : Word64) : Bool := pte.getLsbD 4

/-- Global, bit 5: parsed, read by no rule (R73). -/
def flagG (pte : Word64) : Bool := pte.getLsbD 5

/-- Accessed, bit 6. -/
def flagA (pte : Word64) : Bool := pte.getLsbD 6

/-- Dirty, bit 7. -/
def flagD (pte : Word64) : Bool := pte.getLsbD 7

/-! ## Class predicates (R108) -/

/-- `IsInvalid`. -/
def isInvalid (pte : Word64) : Bool := !flagV pte

/-- `IsReservedWnR`. -/
def isReservedWnr (pte : Word64) : Bool := flagW pte && !flagR pte

/-- `IsLeaf`. -/
def isLeaf (pte : Word64) : Bool := flagR pte || flagX pte

/-- `IsPointer`. -/
def isPointer (pte : Word64) : Bool := !flagR pte && !flagX pte

/-! ## Leaf checks (44_leaf.md section 2) -/

/-- SUM check (R186), made for `LOAD` and `STOREAMO`. -/
def sumDenies (priv : Priv) (sum : Bool) (pte : Word64) : Bool := !sum && priv == .s && flagU pte

/-- The checks of R182 that depend on the purpose: R185; R186 then R187; R186 then R188. -/
def purposeCheck (purpose : Purpose) (priv : Priv) (sum mxr : Bool) (pte : Word64) : Option Diag :=
  match purpose with
  | .fetch => if flagX pte then none else some .execDenied
  | .deleg => if flagX pte then none else some .execDenied
  | .load =>
    if sumDenies priv sum pte then some .sumDenied
    else if !flagR pte && !(mxr && flagX pte) then some .readDenied
    else none
  | .storeamo =>
    if sumDenies priv sum pte then some .sumDenied
    else if !flagW pte then some .writeDenied
    else if !flagD pte then some .dirtyClear
    else none

/-- Whether a PPN segment below the leaf level is nonzero (R189). -/
def misalignedSuperpage (isa : Isa) (pte : Word64) (level : Nat) : Bool :=
  (List.range level).any fun i => ppn isa pte i != 0

/-- `LeafCheck` (R182): the diagnostic of the first check that fails, none when all pass. -/
def leafCheck (purpose : Purpose) (priv : Priv) (sum mxr : Bool) (isa : Isa) (pte : Word64) (level : Nat) : Option Diag :=
  if !flagA pte then some .accessedClear
  else if priv == .u && !flagU pte then some .userDenied
  else match purposeCheck purpose priv sum mxr pte with
    | some d => some d
    | none => if misalignedSuperpage isa pte level then some .misalignedSuperpage else none

/-! ## Fault cause -/

/-- `Cause(purpose)` (R221). -/
def cause : Purpose → BitVec 4
  | .fetch => 12
  | .deleg => 12
  | .load => 13
  | .storeamo => 15

/-- The privilege levels excluded from translation (R141). -/
def excludedFromTranslation : Priv → Bool
  | .m => true
  | .rsvd => true
  | .s => false
  | .u => false

end Sys2Proof.Machine
end

