-- ==== Sys2Proof/Machine/Ops.lean ====
section
/-! DEFINITION. The named operations over the image and the registers: reading and storing bytes, the writes of an accepted
request, the receipt of a PTE word, and the three ways a request ends. Ending with a translation fault (`Walker.endFault`) or with
a configuration error (`Walker.endConfigError`) is what this block has in the place of taking an exception (R220, R226): it
records the failure in the response registers and goes to `RESP`; taking the response (`Walker.deliver`) is the way back. -/

namespace Sys2Proof.Machine

/-! ## The byte image behind the Memory Reader -/

/-- The form every image has: addresses strictly rising and inside the 64-bit physical space (R50). -/
abbrev Memory.wf (m : Memory) : Prop :=
  m.Pairwise (fun x y => x.1 < y.1) ∧ ∀ c ∈ m, c.1 < 2 ^ 64

/-- The byte at an address; none where the image lists none. -/
def readByte : Memory → Nat → Option Byte
  | [], _ => none
  | (k, b) :: m, a => if k = a then some b else readByte m a

/-- Stores a byte. A listed byte always differs from an unlisted one, which cannot be read, so no store removes an entry. -/
def storeByte : Memory → Nat → Byte → Memory
  | [], a, b => [(a, b)]
  | (k, c) :: m, a, b =>
    if a < k then (a, b) :: (k, c) :: m
    else if a = k then (a, b) :: m
    else (k, c) :: storeByte m a b

/-- The bytes other agents store in one step, in order (R62). -/
def storeBytes (m : Memory) (stores : List (Word64 × Byte)) : Memory :=
  stores.foldl (fun m c => storeByte m c.1.toNat c.2) m

/-- The number that `n` bytes from address `a` make, little-endian (R54); none if a byte is not listed. -/
def readLittleEndian (m : Memory) (a : Nat) : Nat → Option Nat
  | 0 => some 0
  | n + 1 =>
    match readByte m a, readLittleEndian m (a + 1) n with
    | some b, some r => some (b.toNat + 256 * r)
    | _, _ => none

/-- The image's answer to a PTE read at the width of the ISA (R52): the word, or none for `ReadError` (R59). -/
def readImage (m : Memory) (isa : Isa) (a : PteAddress) : Option Word64 :=
  (readLittleEndian m a.toNat (ptesize isa)).map (BitVec.ofNat 64)

/-! ## Ends of a request -/

/-- `EndOk(pa, leaf_pte, level)` (R172). -/
def Walker.endOk (pa leafPte : Word64) (level : BitVec 2) (w : Walker) : Walker :=
  { w with
    rKind := .ok, rPaddr := pa, rCause := 0, rDiag := .none, rLevel := level, rLeafPte := leafPte, fsm := .resp }

/-- `EndFault(diag, level)` (R170). -/
def Walker.endFault (diag : Diag) (level : BitVec 2) (w : Walker) : Walker :=
  { w with
    rKind := .fault, rCause := cause w.qPurpose, rDiag := diag, rLevel := level, rPaddr := 0, rLeafPte := 0, fsm := .resp }

/-- `EndConfigError()` (R123). -/
def Walker.endConfigError (w : Walker) : Walker :=
  { w with
    rKind := .configError, rDiag := .unsupportedMode, rPaddr := 0, rCause := 0, rLevel := 0, rLeafPte := 0,
    sFatalCfg := true, fsm := .resp }

/-- Deliver (R172): the response is taken; no other register changes. -/
def Walker.deliver (w : Walker) : Walker := { w with fsm := .idle }

/-! ## Acceptance -/

/-- The writes of the accept step before the refresh (R165): request latch, ISA, SUM and MXR, a cleared trace. -/
def Walker.latchRequest (purpose : Purpose) (priv : Priv) (vaddr : Word64) (isa : Isa) (sum mxr : Bool) (w : Walker) : Walker :=
  { w with
    qPurpose := purpose, qPriv := priv, qVaddr := vaddr, cIsa := isa, cSum := sum, cMxr := mxr,
    wReads := 0, tPte0 := 0, tPte1 := 0, tPte2 := 0, tValid := 0 }

/-- `c_mode <- mode`, `c_root <- root` (R120, R121). -/
def Walker.latchConfig (mode : Mode) (root : Frame) (w : Walker) : Walker := { w with cMode := mode, cRoot := root }

/-- The start of a walk (R165): the top level, the root frame, `ISSUE`. -/
def Walker.startWalk (w : Walker) : Walker := { w with wLevel := topLevel w.cIsa, wFrame := w.cRoot, fsm := .issue }

/-- Dispatch after a refresh (R141, R142, R143): identity, or the start of a walk. -/
def Walker.dispatch (w : Walker) : Walker :=
  if excludedFromTranslation w.qPriv || w.cMode == .bare then w.endOk w.qVaddr 0 0 else w.startWalk

/-- The refresh of a latched request and what follows it in the accept step (R122, R165). -/
def Walker.refreshAndDispatch (cfg : Option (Mode × Frame)) (w : Walker) : Walker :=
  match cfg with
  | none => w.endConfigError
  | some (mode, root) => (w.latchConfig mode root).dispatch

/-! ## Receipt of a PTE word -/

/-- `w_reads`, `t_pte[w_level]` and `t_valid[w_level]` at a received word (R168). -/
def Walker.recordPte (pte : Word64) (w : Walker) : Walker :=
  { w with
    wReads := w.wReads + 1
    tPte0 := if w.wLevel = 0 then pte else w.tPte0
    tPte1 := if w.wLevel = 1 then pte else w.tPte1
    tPte2 := if w.wLevel = 2 then pte else w.tPte2
    tValid := w.tValid ||| (1#3 <<< w.wLevel.toNat) }

/-- The walk goes down to the table a pointer PTE names (R168). -/
def Walker.descend (pte : Word64) (w : Walker) : Walker :=
  { w with wFrame := ptePpn w.cIsa pte, wLevel := w.wLevel - 1, fsm := .issue }

/-- A pointer PTE: `NO_LEAF` at level 0 (R171), else the next table (R168). -/
def Walker.pointerStep (pte : Word64) (w : Walker) : Walker :=
  if w.wLevel = 0 then w.endFault .noLeaf 0 else w.descend pte

/-- `LeafStep(pte, level)` (R191). -/
def Walker.leafStep (pte : Word64) (w : Walker) : Walker :=
  match leafCheck w.qPurpose w.qPriv w.cSum w.cMxr w.cIsa pte w.wLevel.toNat with
  | some d => w.endFault d w.wLevel
  | none => w.endOk (physAddr w.cIsa pte w.wLevel.toNat w.qVaddr) pte w.wLevel

/-- A failed read (R169). -/
def Walker.receiveError (w : Walker) : Walker :=
  ({ w with wReads := w.wReads + 1 } : Walker).endFault .memReadError w.wLevel

/-! ## Lifting to the machine -/

/-- Changes the registers of the block and nothing else. -/
def State.onWalker (f : Walker → Walker) (s : State) : State := { s with w := f s.w }

/-- The accept step of a request (R165). A request is accepted only in `IDLE` (R21); presented while the walker is busy it
changes nothing. Outside the contract are an RV32 request with a nonzero upper address half (R47, U7) and, under `REFUSE`, one at
the reserved privilege level (U8); log entries 8 and 9 say when they are refused. -/
def acceptRequest (purpose : Purpose) (priv : Priv) (vaddr : Word64) (s : State) : Result :=
  if s.w.fsm ≠ .idle then .next s
  else if s.inp.cfgIsa = .rv32 ∧ vaddr.extractLsb' 32 32 ≠ 0 then .refused .rv32HighVaddr
  else if priv = .rsvd ∧ s.rsvdPriv = .refuse then .refused .rsvdPrivRefused
  else .next (s.onWalker fun w =>
    (w.latchRequest purpose priv vaddr s.inp.cfgIsa s.inp.cfgSum s.inp.cfgMxr).refreshAndDispatch
      (refreshConfig s.inp.cfgIsa s.inp.cfgSatp))

/-- The receive step of a PTE word (R168): the word is recorded, then what its class says happens. A word outside `WAIT` is outside
the contract (R53, U6); a level the ISA width does not have is asked by no rule (R100). -/
def receivePte (data : Word64) (act : Word64 → Walker → Walker) (s : State) : Result :=
  if s.w.fsm ≠ .wait then .refused .memResponseOutsideWait
  else if levels s.w.cIsa ≤ s.w.wLevel.toNat then .fault .levelOutOfRange
  else .next (s.onWalker fun w => act (pteWord w.cIsa data) (w.recordPte (pteWord w.cIsa data)))

end Sys2Proof.Machine
end

