-- ==== Sys2Proof/Machine/Cycle.lean ====
section
/-! DEFINITION. What one step of the walker is (43_walk.md section 2): which of the rules R165 to R172 and R250 its state and inputs
select, the word that step decodes, the steps that run no row of the opcode table, and the passing of one step's inputs. -/

namespace Sys2Proof.Machine

/-! ## Words the walker decodes -/

/-- The request on the ports (R88): the command word is {`req_priv`, `req_purpose`}. -/
def Inputs.requestWord (inp : Inputs) : PortWord := .req (inp.reqPriv ++ inp.reqPurpose) inp.reqVaddr

/-- The address of the read being asked or waited for (R23, R167). -/
def Walker.readAddr (w : Walker) : PteAddress := pteAddr w.cIsa w.wFrame w.qVaddr w.wLevel.toNat

/-- The answer on the memory port: the word, or none for `ReadError` (R53). It is the draw on the port, or the image's answer
when the inputs say so (log entry 3). -/
def readerAnswer (s : State) : Option Word64 :=
  if s.inp.memRespFromImage then readImage s.mem s.w.cIsa s.w.readAddr
  else if s.inp.memRespErr then none
  else some s.inp.memRespData

/-! ## Which step is taken -/

/-- What a step does. -/
inductive Action where
  /-- Reset (R250). -/
  | reset
  /-- The inputs are outside the contract (93_implementation_defined.md U6). -/
  | refuse (r : Refusal)
  /-- The walker has no step and holds (R166, R175). -/
  | hold
  /-- A decoded instruction runs (R165, R168). -/
  | run (i : Instr)
  /-- The Memory Reader takes the read request (R167). -/
  | issue
  /-- The Memory Reader answers `ReadError` (R169). -/
  | readError
  /-- The requester takes the response (R172). -/
  | deliver
  deriving DecidableEq, Repr

/-- The rule the step follows: reset overrides every other (R250); a memory response outside `WAIT` is refused (R53, U6); then the
rule of the walker's state. -/
def action (s : State) : Action :=
  if s.inp.rst then .reset
  else if s.inp.memRespValid && s.w.fsm != .wait then .refuse .memResponseOutsideWait
  else match s.w.fsm with
    | .idle => if s.inp.reqValid then .run (decode s.inp.requestWord) else .hold
    | .issue => if s.inp.memReqReady then .issue else .hold
    | .wait =>
      if s.inp.memRespValid then
        match readerAnswer s with
        | some data => .run (decode (.pte data))
        | none => .readError
      else .hold
    | .resp => if s.inp.rspReady then .deliver else .hold

/-! ## Steps that run no row -/

/-- Reset (R250): every register of the block at its reset value; the environment is not the block's (log entry 7). -/
def resetStep (s : State) : State := s.onWalker fun _ => Walker.reset

/-- Issue (R167): the read is taken and recorded. A level the ISA width does not have is asked by no rule (R100). -/
def issueStep (s : State) : Result :=
  if levels s.w.cIsa ≤ s.w.wLevel.toNat then .fault .levelOutOfRange
  else .next
    { s with
      w := { s.w with fsm := .wait }
      hist := ⟨s.w.readAddr, ptesize s.w.cIsa, s.w.wLevel⟩ :: s.hist }

/-- Receive error (R169). -/
def readErrorStep (s : State) : State := s.onWalker Walker.receiveError

/-- Deliver (R172). -/
def deliverStep (s : State) : State := s.onWalker Walker.deliver

/-! ## Passing to the next inputs -/

/-- The inputs of this step pass: other agents' stores land in the image (R62, log entry 4) and the next inputs stand on the
ports; once the schedule is empty every input is 0 (log entry 1). -/
def tick (s : State) : State :=
  { s with
    inp := s.sched.headD Inputs.quiet
    sched := s.sched.tail
    mem := storeBytes s.mem s.inp.envStores }

/-- A step that answers a next state passes to the next inputs; a fault and a refusal stop as they are. -/
def thenTick : Result → Result
  | .next s => .next (tick s)
  | .fault f => .fault f
  | .refused r => .refused r

/-! ## Placing an instruction -/

/-- The inputs with nothing but a request on them: no reset, no memory response. -/
def Inputs.presenting (inp : Inputs) : Inputs := { inp with rst := false, memRespValid := false, reqValid := true }

/-- A walker that accepts: `IDLE`. -/
def State.withInputs (s : State) (inp : Inputs) : State := { s with w := { s.w with fsm := .idle }, inp := inp }

/-- The privilege code on the ports, or `U` where a request at that level is outside the contract (U8), so that the accept step of a
placed root register is not refused before it runs the row. -/
def State.placedPriv (s : State) : BitVec 2 := if s.inp.reqPriv = 2 ∧ s.rsvdPriv = .refuse then 0 else s.inp.reqPriv

/-- The walker in `IDLE` with the word on the ports it stands on: a command word as the request; a root register with the ISA width
of its format, beside the request that stands on the ports, brought inside the contract (under RV32 its upper address half is zero, as
R47 asks; its level is one the parameter does not refuse); a PTE word has no place in `IDLE` and leaves the state as it is
(log entry 14). -/
def placeWord (s : State) (p : PortWord) : State :=
  let inp := s.inp.presenting
  match p with
  | .req cmd vaddr =>
    s.withInputs { inp with reqPriv := cmd.extractLsb' 2 2, reqPurpose := cmd.extractLsb' 0 2, reqVaddr := vaddr }
  | .root32 satp =>
    s.withInputs { inp with
      cfgIsa := .rv32, cfgSatp := satp.setWidth 64, reqVaddr := (inp.reqVaddr.extractLsb' 0 32).setWidth 64
      reqPriv := s.placedPriv }
  | .root64 satp => s.withInputs { inp with cfgIsa := .rv64, cfgSatp := satp, reqPriv := s.placedPriv }
  | .pte _ => s

/-- The state in which the next step runs a table word; the state itself where the word is rejected. -/
def placeTableWord (s : State) (nbits w : Nat) : State :=
  match tableWord nbits w with
  | .ok p => placeWord s p
  | .error _ => s

end Sys2Proof.Machine
end

