-- ==== Sys2Proof/Machine/Pte.lean ====
section
/-! DEFINITION. The meanings of the `PTE` rows: the receive step R168 for a word of each class. -/

namespace Sys2Proof.Machine

/-- `PTE.INVALID` (R180): the request ends with `PTE_INVALID` at this level. -/
def execPteInvalid (data : Word64) (s : State) : Result := receivePte data (fun _ w => w.endFault .pteInvalid w.wLevel) s

/-- `PTE.RESERVED_WNR` (R181): the request ends with `PTE_RESERVED_WNR` at this level. -/
def execPteReservedWnr (data : Word64) (s : State) : Result :=
  receivePte data (fun _ w => w.endFault .pteReservedWnr w.wLevel) s

/-- `PTE.POINTER` (R168, R171): the walk goes down, or ends with `NO_LEAF`. -/
def execPtePointer (data : Word64) (s : State) : Result := receivePte data (fun pte w => w.pointerStep pte) s

/-- `PTE.LEAF_R` (R191): the leaf checks, then the physical address. -/
def execPteLeafR (data : Word64) (s : State) : Result := receivePte data (fun pte w => w.leafStep pte) s

/-- `PTE.LEAF_XO` (R191): the leaf checks, then the physical address. -/
def execPteLeafXo (data : Word64) (s : State) : Result := receivePte data (fun pte w => w.leafStep pte) s

end Sys2Proof.Machine
end

