-- ==== Sys2Proof/Machine/Requests.lean ====
section
/-! DEFINITION. The meanings of the `REQ` rows (R144 to R147): the accept step of a request of each purpose. What a purpose
changes beyond this step (leaf checks, fault cause) is read from `q_purpose` by the later steps of the walk. -/

namespace Sys2Proof.Machine

/-- `TRANSLATE.FETCH` (R144, R165). -/
def execTranslateFetch (priv : Priv) (vaddr : Word64) (s : State) : Result := acceptRequest .fetch priv vaddr s

/-- `TRANSLATE.LOAD` (R145, R165). -/
def execTranslateLoad (priv : Priv) (vaddr : Word64) (s : State) : Result := acceptRequest .load priv vaddr s

/-- `TRANSLATE.STOREAMO` (R146, R165). -/
def execTranslateStoreamo (priv : Priv) (vaddr : Word64) (s : State) : Result := acceptRequest .storeamo priv vaddr s

/-- `TRANSLATE.DELEG` (R147, R165). -/
def execTranslateDeleg (priv : Priv) (vaddr : Word64) (s : State) : Result := acceptRequest .deleg priv vaddr s

end Sys2Proof.Machine
end

