-- ==== Sys2Proof/Machine/Root.lean ====
section
/-! DEFINITION. The meanings of the `SATP32` and `SATP64` rows: what the refresh of the configuration does with a root register of
that row (R120, R121, R123). The refresh is part of the accept step and has no step of its own (41_refresh_config.md, opening
paragraph); the accept step runs it between the latch and the dispatch (R165). The ignored field has no effect (R91). -/

namespace Sys2Proof.Machine

/-- `SATP32.BARE` (R120). -/
def execSatp32Bare (_ignored : BitVec 9) (ppn : BitVec 22) (s : State) : Result :=
  .next (s.onWalker (·.latchConfig .bare (ppn.setWidth 44)))

/-- `SATP32.SV32` (R120). -/
def execSatp32Sv32 (_ignored : BitVec 9) (ppn : BitVec 22) (s : State) : Result :=
  .next (s.onWalker (·.latchConfig .sv32 (ppn.setWidth 44)))

/-- `SATP64.BARE` (R121). -/
def execSatp64Bare (_ignored : BitVec 16) (ppn : BitVec 44) (s : State) : Result :=
  .next (s.onWalker (·.latchConfig .bare ppn))

/-- `SATP64.SV39` (R121). -/
def execSatp64Sv39 (_ignored : BitVec 16) (ppn : BitVec 44) (s : State) : Result :=
  .next (s.onWalker (·.latchConfig .sv39 ppn))

/-- `SATP64.UNSUPPORTED_MODE_1` (R121, R123): a configuration error. -/
def execSatp64Unsupported1 (_ignored : BitVec 16) (_ppn : BitVec 44) (s : State) : Result :=
  .next (s.onWalker (·.endConfigError))

/-- `SATP64.UNSUPPORTED_MODE_2` (R121, R123): a configuration error. -/
def execSatp64Unsupported2 (_ignored : BitVec 16) (_ppn : BitVec 44) (s : State) : Result :=
  .next (s.onWalker (·.endConfigError))

/-- `SATP64.UNSUPPORTED_MODE_3` (R121, R123): a configuration error. -/
def execSatp64Unsupported3 (_ignored : BitVec 16) (_ppn : BitVec 44) (s : State) : Result :=
  .next (s.onWalker (·.endConfigError))

/-- `SATP64.UNSUPPORTED_MODE_4` (R121, R123): a configuration error. -/
def execSatp64Unsupported4 (_ignored : BitVec 16) (_ppn : BitVec 44) (s : State) : Result :=
  .next (s.onWalker (·.endConfigError))

/-- `SATP64.UNSUPPORTED_MODE_5` (R121, R123): a configuration error. -/
def execSatp64Unsupported5 (_ignored : BitVec 16) (_ppn : BitVec 44) (s : State) : Result :=
  .next (s.onWalker (·.endConfigError))

/-- `SATP64.UNSUPPORTED_MODE_6` (R121, R123): a configuration error. -/
def execSatp64Unsupported6 (_ignored : BitVec 16) (_ppn : BitVec 44) (s : State) : Result :=
  .next (s.onWalker (·.endConfigError))

/-- `SATP64.UNSUPPORTED_MODE_7` (R121, R123): a configuration error. -/
def execSatp64Unsupported7 (_ignored : BitVec 16) (_ppn : BitVec 44) (s : State) : Result :=
  .next (s.onWalker (·.endConfigError))

/-- `SATP64.UNSUPPORTED_MODE_9` (R121, R123): a configuration error. -/
def execSatp64Unsupported9 (_ignored : BitVec 16) (_ppn : BitVec 44) (s : State) : Result :=
  .next (s.onWalker (·.endConfigError))

/-- `SATP64.UNSUPPORTED_MODE_10` (R121, R123): a configuration error. -/
def execSatp64Unsupported10 (_ignored : BitVec 16) (_ppn : BitVec 44) (s : State) : Result :=
  .next (s.onWalker (·.endConfigError))

/-- `SATP64.UNSUPPORTED_MODE_11` (R121, R123): a configuration error. -/
def execSatp64Unsupported11 (_ignored : BitVec 16) (_ppn : BitVec 44) (s : State) : Result :=
  .next (s.onWalker (·.endConfigError))

/-- `SATP64.UNSUPPORTED_MODE_12` (R121, R123): a configuration error. -/
def execSatp64Unsupported12 (_ignored : BitVec 16) (_ppn : BitVec 44) (s : State) : Result :=
  .next (s.onWalker (·.endConfigError))

/-- `SATP64.UNSUPPORTED_MODE_13` (R121, R123): a configuration error. -/
def execSatp64Unsupported13 (_ignored : BitVec 16) (_ppn : BitVec 44) (s : State) : Result :=
  .next (s.onWalker (·.endConfigError))

/-- `SATP64.UNSUPPORTED_MODE_14` (R121, R123): a configuration error. -/
def execSatp64Unsupported14 (_ignored : BitVec 16) (_ppn : BitVec 44) (s : State) : Result :=
  .next (s.onWalker (·.endConfigError))

/-- `SATP64.UNSUPPORTED_MODE_15` (R121, R123): a configuration error. -/
def execSatp64Unsupported15 (_ignored : BitVec 16) (_ppn : BitVec 44) (s : State) : Result :=
  .next (s.onWalker (·.endConfigError))

end Sys2Proof.Machine
end

