-- ==== Sys2Proof/Machine/Dispatch.lean ====
section
/-! DEFINITION. One arm per constructor of `Instr`: each calls its meaning. -/

namespace Sys2Proof.Machine

def exec (i : Instr) (s : State) : Host.Outcome State Fault Refusal :=
  match i with
  -- REQ (R144 to R147)
  | .translateFetch priv vaddr => Sys2Proof.Machine.execTranslateFetch priv vaddr s
  | .translateLoad priv vaddr => Sys2Proof.Machine.execTranslateLoad priv vaddr s
  | .translateStoreamo priv vaddr => Sys2Proof.Machine.execTranslateStoreamo priv vaddr s
  | .translateDeleg priv vaddr => Sys2Proof.Machine.execTranslateDeleg priv vaddr s
  -- SATP32 (R120)
  | .satp32Bare ign ppn => Sys2Proof.Machine.execSatp32Bare ign ppn s
  | .satp32Sv32 ign ppn => Sys2Proof.Machine.execSatp32Sv32 ign ppn s
  -- SATP64 (R121, R123)
  | .satp64Bare ign ppn => Sys2Proof.Machine.execSatp64Bare ign ppn s
  | .satp64Unsupported1 ign ppn => Sys2Proof.Machine.execSatp64Unsupported1 ign ppn s
  | .satp64Unsupported2 ign ppn => Sys2Proof.Machine.execSatp64Unsupported2 ign ppn s
  | .satp64Unsupported3 ign ppn => Sys2Proof.Machine.execSatp64Unsupported3 ign ppn s
  | .satp64Unsupported4 ign ppn => Sys2Proof.Machine.execSatp64Unsupported4 ign ppn s
  | .satp64Unsupported5 ign ppn => Sys2Proof.Machine.execSatp64Unsupported5 ign ppn s
  | .satp64Unsupported6 ign ppn => Sys2Proof.Machine.execSatp64Unsupported6 ign ppn s
  | .satp64Unsupported7 ign ppn => Sys2Proof.Machine.execSatp64Unsupported7 ign ppn s
  | .satp64Sv39 ign ppn => Sys2Proof.Machine.execSatp64Sv39 ign ppn s
  | .satp64Unsupported9 ign ppn => Sys2Proof.Machine.execSatp64Unsupported9 ign ppn s
  | .satp64Unsupported10 ign ppn => Sys2Proof.Machine.execSatp64Unsupported10 ign ppn s
  | .satp64Unsupported11 ign ppn => Sys2Proof.Machine.execSatp64Unsupported11 ign ppn s
  | .satp64Unsupported12 ign ppn => Sys2Proof.Machine.execSatp64Unsupported12 ign ppn s
  | .satp64Unsupported13 ign ppn => Sys2Proof.Machine.execSatp64Unsupported13 ign ppn s
  | .satp64Unsupported14 ign ppn => Sys2Proof.Machine.execSatp64Unsupported14 ign ppn s
  | .satp64Unsupported15 ign ppn => Sys2Proof.Machine.execSatp64Unsupported15 ign ppn s
  -- PTE (R168, R180, R181, R191)
  | .pteInvalid data => Sys2Proof.Machine.execPteInvalid data s
  | .pteReservedWnr data => Sys2Proof.Machine.execPteReservedWnr data s
  | .ptePointer data => Sys2Proof.Machine.execPtePointer data s
  | .pteLeafR data => Sys2Proof.Machine.execPteLeafR data s
  | .pteLeafXo data => Sys2Proof.Machine.execPteLeafXo data s

end Sys2Proof.Machine
end

