-- ==== Sys2Proof/Machine/Step.lean ====
section
/-! DEFINITION. One step of the machine: the rule that `action` selects, then the passing of the step's inputs. -/

namespace Sys2Proof.Machine

/-- One step of the walker (43_walk.md section 2). -/
def step (s : State) : Host.Outcome State Fault Refusal :=
  match action s with
  | .reset => .next (tick (resetStep s))
  | .refuse r => .refused r
  | .hold => .next (tick s)
  | .run i => thenTick (exec i s)
  | .issue => thenTick (issueStep s)
  | .readError => .next (tick (readErrorStep s))
  | .deliver => .next (tick (deliverStep s))

/-- The state in which the next step runs the instruction of a table word (log entry 14). -/
def State.withFetchWord (s : State) (nbits w : Nat) : State := placeTableWord s nbits w

end Sys2Proof.Machine
end

