-- ==== Sys2Proof/Machine/Ports.lean ====
section
/-! DEFINITION. The output ports (R23) with the codes of 30_encoding.md section 3. An output that no rule gives a meaning while its
valid port is 0 (U1, U2) is answered with none there: no claim can read it. -/

namespace Sys2Proof.Machine

/-! ## Codes -/

/-- Translation mode codes (R83). -/
def Mode.code : Mode → BitVec 2
  | .bare => 0
  | .sv32 => 1
  | .sv39 => 2

/-- Walker state codes (R84). -/
def Fsm.code : Fsm → BitVec 2
  | .idle => 0
  | .issue => 1
  | .wait => 2
  | .resp => 3

/-- Response kind codes (R85). -/
def RspKind.code : RspKind → BitVec 2
  | .ok => 0
  | .fault => 1
  | .configError => 2

/-- Diagnostic codes (R86). -/
def Diag.code : Diag → BitVec 4
  | .none => 0
  | .unsupportedMode => 1
  | .memReadError => 2
  | .pteInvalid => 3
  | .pteReservedWnr => 4
  | .noLeaf => 5
  | .accessedClear => 6
  | .userDenied => 7
  | .execDenied => 8
  | .sumDenied => 9
  | .readDenied => 10
  | .writeDenied => 11
  | .dirtyClear => 12
  | .misalignedSuperpage => 13

/-! ## Ports -/

/-- `req_ready`, the one output that an input gates. -/
def reqReady (s : State) : Bool := s.w.fsm == .idle && !s.inp.rst

/-- `mem_req_valid`. -/
def memReqValid (w : Walker) : Bool := w.fsm == .issue

/-- The read request on `mem_req_addr` and `mem_req_size` (R87: 0 is 4 bytes, 1 is 8 bytes). -/
structure MemReq where
  addr : PteAddress
  size : BitVec 1
  deriving DecidableEq, Repr

/-- `mem_req_addr` and `mem_req_size`, while `mem_req_valid` is 1. -/
def memReq (w : Walker) : Option MemReq := if memReqValid w then some ⟨w.readAddr, w.cIsa.code⟩ else none

/-- `rsp_valid`. -/
def rspValid (w : Walker) : Bool := w.fsm == .resp

/-- The `rsp_*` ports. -/
structure Response where
  kind : BitVec 2
  paddr : Word64
  cause : BitVec 4
  diag : BitVec 4
  level : BitVec 2
  reads : BitVec 2
  vaddr : Word64
  leafPte : Word64
  pte0 : Word64
  pte1 : Word64
  pte2 : Word64
  pteValid : BitVec 3
  deriving DecidableEq, Repr

/-- The `rsp_*` ports, while `rsp_valid` is 1. -/
def response (w : Walker) : Option Response :=
  if rspValid w then
    some
      { kind := w.rKind.code, paddr := w.rPaddr, cause := w.rCause, diag := w.rDiag.code, level := w.rLevel, reads := w.wReads,
        vaddr := w.qVaddr, leafPte := w.rLeafPte, pte0 := w.tPte0, pte1 := w.tPte1, pte2 := w.tPte2, pteValid := w.tValid }
  else none

/-- `busy`. -/
def busy (w : Walker) : Bool := w.fsm != .idle

/-- `fatal_cfg`. -/
def fatalCfg (w : Walker) : Bool := w.sFatalCfg

end Sys2Proof.Machine
end

