-- ==== Sys2Proof/Machine/Translate.lean ====
section
/-! DEFINITION. The contract of one request as a function: `Walk` (R160) and `Translate` (R140), for a Memory Reader that answers
the `k`-th read of the request (`k` from 0) at an address. The steps of the walker are held to it by R173. -/

namespace Sys2Proof.Machine

/-- A Memory Reader: its answer to the `k`-th read of a request at an address, none for `ReadError` (R54). -/
abbrev ReadOracle := Nat → PteAddress → Option Word64

/-- What one read of the walk comes to (R160): a fault, a leaf, or the table to read next. -/
inductive ReadOutcome where
  | fault (diag : Diag)
  | leaf (pte : Word64)
  | pointer (frame : Frame)
  deriving DecidableEq, Repr

/-- Steps b to e of R160 on the answer of a read. -/
def classify (isa : Isa) (answer : Option Word64) : ReadOutcome :=
  match answer with
  | none => .fault .memReadError
  | some data =>
    let pte := pteWord isa data
    if isInvalid pte then .fault .pteInvalid
    else if isReservedWnr pte then .fault .pteReservedWnr
    else if isLeaf pte then .leaf pte
    else .pointer (ptePpn isa pte)

/-- The end of a walk, with the number of reads made. -/
inductive WalkEnd where
  | leaf (pte : Word64) (level reads : Nat)
  | fault (diag : Diag) (level reads : Nat)
  deriving DecidableEq, Repr

/-- The loop of R160 from a level and a frame on, `k` reads having been made. -/
def walkFrom (isa : Isa) (va : Word64) (mem : ReadOracle) : Nat → Frame → Nat → WalkEnd
  | 0, frame, k =>
    match classify isa (mem k (pteAddr isa frame va 0)) with
    | .fault d => .fault d 0 (k + 1)
    | .leaf pte => .leaf pte 0 (k + 1)
    | .pointer _ => .fault .noLeaf 0 (k + 1)
  | level + 1, frame, k =>
    match classify isa (mem k (pteAddr isa frame va (level + 1))) with
    | .fault d => .fault d (level + 1) (k + 1)
    | .leaf pte => .leaf pte (level + 1) (k + 1)
    | .pointer frame' => walkFrom isa va mem level frame' (k + 1)

/-- `Walk` (R160): the walk from the root. -/
def walk (isa : Isa) (va : Word64) (root : Frame) (mem : ReadOracle) : WalkEnd := walkFrom isa va mem (levels isa - 1) root 0

/-- The three results of a request (R140, R220). -/
inductive Translation where
  | ok (pa : Word64)
  | pageFault (cause : BitVec 4) (diag : Diag) (level : Nat)
  | configError
  deriving DecidableEq, Repr

/-- What follows the walk in R140: the leaf checks and the address; with the number of reads. -/
def finishWalk (purpose : Purpose) (priv : Priv) (va : Word64) (isa : Isa) (sum mxr : Bool) : WalkEnd → Translation × Nat
  | .fault d level reads => (.pageFault (cause purpose) d level, reads)
  | .leaf pte level reads =>
    match leafCheck purpose priv sum mxr isa pte level with
    | some d => (.pageFault (cause purpose) d level, reads)
    | none => (.ok (physAddr isa pte level va), reads)

/-- `Translate` (R140), with the number of reads it makes (R173). `RSVD` is translated as identity, the default of R9. -/
def translate (purpose : Purpose) (priv : Priv) (va : Word64) (isa : Isa) (satp : Word64) (sum mxr : Bool) (mem : ReadOracle) :
    Translation × Nat :=
  match refreshConfig isa satp with
  | none => (.configError, 0)
  | some (mode, root) =>
    if excludedFromTranslation priv then (.ok va, 0)
    else if mode = .bare then (.ok va, 0)
    else finishWalk purpose priv va isa sum mxr (walk isa va root mem)

/-- The result that the response registers hold (R173). -/
def heldTranslation (w : Walker) : Translation :=
  match w.rKind with
  | .ok => .ok w.rPaddr
  | .fault => .pageFault w.rCause w.rDiag w.rLevel.toNat
  | .configError => .configError

end Sys2Proof.Machine
end

