-- ==== Sys2Proof/Safety.lean ====
section
/-! DEFINITION. The terms that claims about the machine use: the invariant of its states, the contract of its environment, runs
against a Memory Reader, and one request served by the image. -/

namespace Sys2Proof.Machine

/-! ## The invariant -/

/-- The walker is in the middle of a walk: a read is asked for or outstanding (R29). -/
abbrev Walker.walking (w : Walker) : Prop := w.fsm = .issue ∨ w.fsm = .wait

/-- What holds in the middle of a walk: only a translated privilege level under the ISA's own mode walks (R143); the level is one
the ISA has and the reads made are the levels above it (R30, R31, R161); the trace holds exactly those levels (R32); under RV32 the
frame is 22 bits wide (R7). -/
abbrev Walker.walkOk (w : Walker) : Prop :=
  (w.qPriv = .u ∨ w.qPriv = .s) ∧ w.cMode = walkMode w.cIsa ∧
  w.wReads.toNat + w.wLevel.toNat + 1 = levels w.cIsa ∧
  (∀ l : Fin 3, w.tValid.getLsbD l.val = (decide (w.wLevel.toNat < l.val) && decide (l.val < levels w.cIsa))) ∧
  (w.cIsa = .rv32 → w.wFrame.toNat < 2 ^ 22)

/-- What a held response looks like (R33, R123, R170, R172) and how many reads it took (R259). -/
abbrev Walker.respOk (w : Walker) : Prop :=
  (w.wReads.toNat = 0 → w.rLevel.toNat = 0) ∧
  (w.wReads.toNat ≠ 0 → w.wReads.toNat + w.rLevel.toNat = levels w.cIsa) ∧
  (w.rKind = .ok → w.rCause = 0 ∧ w.rDiag = .none) ∧
  (w.rKind = .fault →
    w.rCause = cause w.qPurpose ∧ w.rDiag ≠ .none ∧ w.rDiag ≠ .unsupportedMode ∧ w.rPaddr = 0 ∧ w.rLeafPte = 0 ∧
    w.wReads.toNat ≠ 0) ∧
  (w.rKind = .configError →
    w.rCause = 0 ∧ w.rDiag = .unsupportedMode ∧ w.rPaddr = 0 ∧ w.rLeafPte = 0 ∧ w.wReads.toNat = 0 ∧
    w.cIsa = .rv64 ∧ w.sFatalCfg = true)

/-- The invariant of the registers. Under RV32 the snapshot is one that R120 can write and the latched address is 32 bits wide
(R28, R47). -/
abbrev Walker.inv (w : Walker) : Prop :=
  (w.cIsa = .rv32 → w.cRoot.toNat < 2 ^ 22 ∧ w.qVaddr.toNat < 2 ^ 32 ∧ w.cMode ≠ .sv39) ∧
  (w.walking → w.walkOk) ∧
  (w.fsm = .resp → w.respOk)

/-- Every issued read is naturally aligned at its own size, 4 or 8 bytes (R56, R87). -/
abbrev histAligned (hist : List ReadIssued) : Prop :=
  ∀ e ∈ hist, (e.size = 4 ∨ e.size = 8) ∧ e.addr.toNat % e.size = 0

/-- The invariant of the machine. -/
abbrev State.inv (s : State) : Prop := s.w.inv ∧ Memory.wf s.mem ∧ histAligned s.hist

/-! ## The contract -/

/-- The walker accepts the request on its ports in this step (R165). -/
abbrev State.accepting (s : State) : Prop :=
  s.inp.rst = false ∧ s.inp.memRespValid = false ∧ s.w.fsm = .idle ∧ s.inp.reqValid = true

/-- The request on the ports is inside the contract: its upper address half is zero under RV32 (R47, U7), and it is not at the
reserved level when the parameter refuses that (U8). -/
abbrev State.requestInContract (s : State) : Prop :=
  (s.inp.cfgIsa = .rv32 → s.inp.reqVaddr.extractLsb' 32 32 = 0) ∧
  (Priv.ofCode s.inp.reqPriv = .rsvd → s.rsvdPriv = .identity)

/-- The state with the request on the ports latched, as the accept step does before the refresh (R165). -/
abbrev State.latched (s : State) : State :=
  { s with w := { s.w with
    qPurpose := Purpose.ofCode s.inp.reqPurpose, qPriv := Priv.ofCode s.inp.reqPriv, qVaddr := s.inp.reqVaddr
    cIsa := s.inp.cfgIsa, cSum := s.inp.cfgSum, cMxr := s.inp.cfgMxr
    wReads := 0, tPte0 := 0, tPte1 := 0, tPte2 := 0, tValid := 0 } }

/-- The step from `s` is the accept step that runs the root-register row `i`: the row completes on the latched request, and unless it
ended the request the dispatch follows (R165, log entry 11). -/
abbrev State.acceptsThrough (s : State) (i : Instr) : Prop :=
  ∃ r, exec i s.latched = .next r ∧ step s = .next (tick (if r.w.fsm = .resp then r else r.onWalker Walker.dispatch))

/-- The result that the contract of R140 gives the request on the ports. -/
def State.requestResult (s : State) (mem : ReadOracle) : Translation × Nat :=
  translate (Purpose.ofCode s.inp.reqPurpose) (Priv.ofCode s.inp.reqPriv) s.inp.reqVaddr s.inp.cfgIsa s.inp.cfgSatp s.inp.cfgSum
    s.inp.cfgMxr mem

/-- The four operations, each with its purpose (R88). -/
abbrev requestOps (priv : Priv) (va : Word64) : List (Instr × Purpose) :=
  [(.translateFetch priv va, .fetch), (.translateLoad priv va, .load), (.translateStoreamo priv va, .storeamo),
   (.translateDeleg priv va, .deleg)]

/-! ## Runs of one request -/

/-- The step from `s` keeps to the Memory Reader `mem`: no reset, the response of the request not yet reached, and an answer
presented to a waiting walker is what `mem` answers the read it waits for, the `w_reads`-th of the request (R173). -/
abbrev answersAs (mem : ReadOracle) (s : State) : Prop :=
  s.inp.rst = false ∧ s.w.fsm ≠ .resp ∧
  (s.w.fsm = .wait → s.inp.memRespValid = true → readerAnswer s = mem s.w.wReads.toNat s.w.readAddr)

/-- `t` is reached from `s` by steps that keep to `mem`, whatever the timing of the handshakes. -/
inductive ServedBy (mem : ReadOracle) (s : State) : State → Prop where
  | here : ServedBy mem s s
  | step {t u : State} : ServedBy mem s t → answersAs mem t → step t = .next u → ServedBy mem s u

/-- Inputs of a step in which the Memory Reader takes a read request. -/
def Inputs.takesRead : Inputs := { Inputs.quiet with memReqReady := true }

/-- Inputs of a step in which the Memory Reader answers from its image. -/
def Inputs.answersFromImage : Inputs := { Inputs.quiet with memRespValid := true, memRespFromImage := true }

/-- The inputs of a Memory Reader that takes each of `n` reads at once and answers it from its image in the step after. -/
def promptReader : Nat → List Inputs
  | 0 => []
  | n + 1 => Inputs.takesRead :: Inputs.answersFromImage :: promptReader n

/-- The image as a Memory Reader whose contents do not change (R54). -/
def imageOracle (m : Memory) (isa : Isa) : ReadOracle := fun _ a => readImage m isa a

/-! ## Progress -/

/-- A bound on the steps, holds apart, that a walk still takes to its response: two for each read from this level down, one when
the read is already issued (R161, R259). -/
def Walker.stepsLeft (w : Walker) : Nat :=
  match w.fsm with
  | .issue => 2 * w.wLevel.toNat + 2
  | .wait => 2 * w.wLevel.toNat + 1
  | .idle => 0
  | .resp => 0

end Sys2Proof.Machine
end

