-- ==== Sys2Proof/Certificates/Slice0/Obligations.lean ====
section
/-! DEFINITION. The statements for the provers. Each names the rule or section of spec/ that it formalises. Where a statement speaks
of every state it holds in states no run reaches too; the hypothesis `w_level < LEVELS` (in `levels`) rules out only states that the
invariant `State.inv` rules out, and `StepKeepsInvariant` and `ResetMeetsInvariant` say that runs stay inside it. -/

open Sys2Proof Sys2Proof.Machine

/-! ## Encoding -/

/-- Words written out from the encodings: command words {priv, purpose} (R88), root registers (R25, R26), PTE words (R74 to R76). -/
def Obligations.ListedWordsDecode : Prop :=
  (∀ va, decode (.req 0x0 va) = .translateFetch .u va) ∧ (∀ va, decode (.req 0x5 va) = .translateLoad .s va) ∧
  (∀ va, decode (.req 0xA va) = .translateStoreamo .rsvd va) ∧ (∀ va, decode (.req 0xF va) = .translateDeleg .m va) ∧
  decode (.root32 0x80080000) = .satp32Sv32 0 0x80000 ∧ decode (.root32 0x7FFFFFFF) = .satp32Bare 0x1FF 0x3FFFFF ∧
  decode (.root64 0x8000000000080000) = .satp64Sv39 0 0x80000 ∧
  decode (.root64 0x0FFFFFFFFFFFFFFF) = .satp64Bare 0xFFFF 0xFFFFFFFFFFF ∧
  decode (.root64 0x9000000000080000) = .satp64Unsupported9 0 0x80000 ∧
  decode (.pte 0x20048CD7) = .pteLeafR 0x20048CD7 ∧ decode (.pte 0x20049059) = .pteLeafXo 0x20049059 ∧
  decode (.pte 0x20000401) = .ptePointer 0x20000401 ∧ decode (.pte 0x5) = .pteReservedWnr 0x5 ∧ decode (.pte 0xE) = .pteInvalid 0xE

/-- No bit of an encoding is dropped: decoding the encoding of a well-formed instruction gives it back, with every operand at every
value (R25, R26, R76, R88). -/
def Obligations.DecodeOfEncodeIsIdentity : Prop := ∀ i : Instr, i.wf = true → decode (encode i) = i

/-- Each port word has one meaning: encoding what a word decodes to gives the word back, and what it decodes to is well formed. -/
def Obligations.EncodeOfDecodeIsIdentity : Prop := ∀ p : PortWord, encode (decode p) = p ∧ (decode p).wf = true

/-- R88: the operation is selected by command bits 1:0, the privilege level is command bits 3:2 with the codes of R81; every command
word decodes. -/
def Obligations.CommandWordSelectsOperation : Prop :=
  (∀ (cmd : BitVec 4) (va : Word64),
    (cmd.extractLsb' 0 2 = 0x0#2 → decode (.req cmd va) = .translateFetch (Priv.ofCode (cmd.extractLsb' 2 2)) va) ∧
    (cmd.extractLsb' 0 2 = 0x1#2 → decode (.req cmd va) = .translateLoad (Priv.ofCode (cmd.extractLsb' 2 2)) va) ∧
    (cmd.extractLsb' 0 2 = 0x2#2 → decode (.req cmd va) = .translateStoreamo (Priv.ofCode (cmd.extractLsb' 2 2)) va) ∧
    (cmd.extractLsb' 0 2 = 0x3#2 → decode (.req cmd va) = .translateDeleg (Priv.ofCode (cmd.extractLsb' 2 2)) va)) ∧
  Priv.ofCode 0 = .u ∧ Priv.ofCode 1 = .s ∧ Priv.ofCode 2 = .rsvd ∧ Priv.ofCode 3 = .m

/-! ## Field decomposition -/

/-- R103: the VPN fields and the offset put together are the walked bits of the virtual address, and a physical address has the page
offset of its virtual address. -/
def Obligations.VaDecompositionIsExact : Prop :=
  (∀ va : Word64, vpn32 va 1 ++ vpn32 va 0 ++ offset va = va.extractLsb' 0 32) ∧
  (∀ va : Word64, vpn39 va 2 ++ vpn39 va 1 ++ vpn39 va 0 ++ offset va = va.extractLsb' 0 39) ∧
  (∀ isa pte level va, (physAddr isa pte level va).extractLsb' 0 12 = offset va)

/-- R162, R163, R56: the PTE address is the exact sum, it never wraps on the 56-bit port, it is a multiple of the PTE size, and under
RV32 with a 22-bit frame it is below 2^34. -/
def Obligations.PteAddressIsExactSum : Prop :=
  ∀ (frame : Frame) (va : Word64) (level : Nat),
    (pteAddr .rv32 frame va level).toNat = frame.toNat * 4096 + va.toNat / 2 ^ (12 + 10 * level) % 2 ^ 10 * 4 ∧
    (pteAddr .rv64 frame va level).toNat = frame.toNat * 4096 + va.toNat / 2 ^ (12 + 9 * level) % 2 ^ 9 * 8 ∧
    (pteAddr .rv32 frame va level).toNat % 4 = 0 ∧ (pteAddr .rv64 frame va level).toNat % 8 = 0 ∧
    (frame.toNat < 2 ^ 22 → (pteAddr .rv32 frame va level).toNat < 2 ^ 34)

/-- R107: the frame number of a PTE is its PPN segments put together, bits 31:10 under RV32 (22 bits) and 53:10 under RV64. -/
def Obligations.FrameNumberIsReassembledPpn : Prop :=
  ∀ pte : Word64,
    ptePpn .rv32 pte = (pte.extractLsb' 10 22).setWidth 44 ∧ (ppn1Sv32 pte ++ ppn0Sv32 pte) = pte.extractLsb' 10 22 ∧
    ptePpn .rv64 pte = pte.extractLsb' 10 44 ∧ (ppn2Sv39 pte ++ ppn1Sv39 pte ++ ppn0Sv39 pte) = pte.extractLsb' 10 44 ∧
    (ptePpn .rv32 pte).toNat < 2 ^ 22

/-! ## Root register rows -/

/-- R120: under RV32 every root register decodes; the refresh latches the low 22 bits and the mode of bit 31, and changes nothing
else. That running the row has this effect in every walker state is the model's reading (log entry 11). -/
def Obligations.Sv32RootRegisterRefresh : Prop :=
  ∀ (satp : Word64) (s : State),
    exec (decodeRoot .rv32 satp) s =
      .next { s with w := { s.w with
        cMode := if satp.getLsbD 31 then .sv32 else .bare
        cRoot := (satp.extractLsb' 0 22).setWidth 44 } } ∧
    refreshConfig .rv32 satp =
      some (if satp.getLsbD 31 then .sv32 else .bare, (satp.extractLsb' 0 22).setWidth 44)

/-- R121: under RV64 MODE 0 is BARE, 8 is SV39, with the low 44 bits as root frame; every other MODE ends the request with a
configuration error, whose writes are those of R123. Nothing else changes. That running a row has this effect in every walker
state is the model's reading (log entry 11). -/
def Obligations.Sv39RootRegisterRefresh : Prop :=
  ∀ (satp : Word64) (s : State),
    (satp.extractLsb' 60 4 = 0x0#4 →
      exec (decodeRoot .rv64 satp) s = .next { s with w := { s.w with cMode := .bare, cRoot := satp.extractLsb' 0 44 } } ∧
      refreshConfig .rv64 satp = some (.bare, satp.extractLsb' 0 44)) ∧
    (satp.extractLsb' 60 4 = 0x8#4 →
      exec (decodeRoot .rv64 satp) s = .next { s with w := { s.w with cMode := .sv39, cRoot := satp.extractLsb' 0 44 } } ∧
      refreshConfig .rv64 satp = some (.sv39, satp.extractLsb' 0 44)) ∧
    (satp.extractLsb' 60 4 ≠ 0x0#4 → satp.extractLsb' 60 4 ≠ 0x8#4 →
      exec (decodeRoot .rv64 satp) s =
        .next { s with w := { s.w with
          rKind := .configError, rDiag := .unsupportedMode, rPaddr := 0, rCause := 0, rLevel := 0, rLeafPte := 0
          sFatalCfg := true, fsm := .resp } } ∧
      refreshConfig .rv64 satp = none)

/-- The rows `SATP32.BARE`, `SATP32.SV32`, `SATP64.BARE` and `SATP64.SV39` complete in every state: they latch the mode and the root
frame and change nothing else (R120, R121). -/
def Obligations.SupportedRootRowsLatchModeAndFrame : Prop :=
  ∀ (s : State) (ign9 : BitVec 9) (ppn22 : BitVec 22) (ign16 : BitVec 16) (ppn44 : BitVec 44),
    exec (.satp32Bare ign9 ppn22) s = .next { s with w := { s.w with cMode := .bare, cRoot := ppn22.setWidth 44 } } ∧
    exec (.satp32Sv32 ign9 ppn22) s = .next { s with w := { s.w with cMode := .sv32, cRoot := ppn22.setWidth 44 } } ∧
    exec (.satp64Bare ign16 ppn44) s = .next { s with w := { s.w with cMode := .bare, cRoot := ppn44 } } ∧
    exec (.satp64Sv39 ign16 ppn44) s = .next { s with w := { s.w with cMode := .sv39, cRoot := ppn44 } }

/-- The fourteen rows `SATP64.UNSUPPORTED_MODE_k` complete in every state: the request ends with a configuration error, `c_mode` and
`c_root` keep their values, and nothing but the named registers changes (R121, R123). -/
def Obligations.UnsupportedRootRowsEndTheRequest : Prop :=
  ∀ (s : State) (ign : BitVec 16) (ppn : BitVec 44),
    ∀ i ∈ [Instr.satp64Unsupported1 ign ppn, .satp64Unsupported2 ign ppn, .satp64Unsupported3 ign ppn, .satp64Unsupported4 ign ppn,
      .satp64Unsupported5 ign ppn, .satp64Unsupported6 ign ppn, .satp64Unsupported7 ign ppn, .satp64Unsupported9 ign ppn,
      .satp64Unsupported10 ign ppn, .satp64Unsupported11 ign ppn, .satp64Unsupported12 ign ppn, .satp64Unsupported13 ign ppn,
      .satp64Unsupported14 ign ppn, .satp64Unsupported15 ign ppn],
    exec i s =
      .next { s with w := { s.w with
        rKind := .configError, rDiag := .unsupportedMode, rPaddr := 0, rCause := 0, rLevel := 0, rLeafPte := 0
        sFatalCfg := true, fsm := .resp } }

/-! ## Accepting a request -/

/-- R142: under Bare a request at `S` or `U` of any purpose (`TRANSLATE.FETCH`, `TRANSLATE.LOAD`, `TRANSLATE.STOREAMO` and
`TRANSLATE.DELEG`, the list `requestOps`) is answered in its accept step with its own address, all 64 bits, and makes no memory read.
The registers are those of R165 and R172; nothing else changes. -/
def Obligations.BareRequestsAreIdentity : Prop :=
  ∀ (i : Instr) (purpose : Purpose) (priv : Priv) (va : Word64) (root : Frame) (s : State), (i, purpose) ∈ requestOps priv va →
    s.w.fsm = .idle → (s.inp.cfgIsa = .rv32 → va.extractLsb' 32 32 = 0) → (priv = .s ∨ priv = .u) →
    refreshConfig s.inp.cfgIsa s.inp.cfgSatp = some (.bare, root) →
    exec i s =
      .next { s with w := { s.w with
        qPurpose := purpose, qPriv := priv, qVaddr := va, cIsa := s.inp.cfgIsa, cSum := s.inp.cfgSum, cMxr := s.inp.cfgMxr
        wReads := 0, tPte0 := 0, tPte1 := 0, tPte2 := 0, tValid := 0, cMode := .bare, cRoot := root
        rKind := .ok, rPaddr := va, rCause := 0, rDiag := .none, rLevel := 0, rLeafPte := 0, fsm := .resp } }

/-- R141: a request at `M`, or at `RSVD` under the default `IDENTITY`, is answered with its own address in every mode, whatever SUM
and MXR, with no memory read; a configuration error still ends it. -/
def Obligations.ExcludedLevelsAreIdentity : Prop :=
  ∀ (i : Instr) (purpose : Purpose) (priv : Priv) (va : Word64) (s : State), (i, purpose) ∈ requestOps priv va →
    s.w.fsm = .idle → (s.inp.cfgIsa = .rv32 → va.extractLsb' 32 32 = 0) → (priv = .m ∨ priv = .rsvd ∧ s.rsvdPriv = .identity) →
    (∀ mode root, refreshConfig s.inp.cfgIsa s.inp.cfgSatp = some (mode, root) →
      exec i s =
        .next { s with w := { s.w with
          qPurpose := purpose, qPriv := priv, qVaddr := va, cIsa := s.inp.cfgIsa, cSum := s.inp.cfgSum, cMxr := s.inp.cfgMxr
          wReads := 0, tPte0 := 0, tPte1 := 0, tPte2 := 0, tValid := 0, cMode := mode, cRoot := root
          rKind := .ok, rPaddr := va, rCause := 0, rDiag := .none, rLevel := 0, rLeafPte := 0, fsm := .resp } }) ∧
    (refreshConfig s.inp.cfgIsa s.inp.cfgSatp = none →
      ∃ t, exec i s = .next t ∧ t.w.rKind = .configError ∧ t.w.fsm = .resp)

/-- R143, R165: a request at `U` or `S` under Sv32 or Sv39 starts a walk in its accept step: the top level of its ISA width, the root
frame, `ISSUE`, a cleared trace; the response registers and everything else stay. -/
def Obligations.TranslatedRequestStartsWalk : Prop :=
  ∀ (i : Instr) (purpose : Purpose) (priv : Priv) (va : Word64) (mode : Mode) (root : Frame) (s : State),
    (i, purpose) ∈ requestOps priv va →
    s.w.fsm = .idle → (s.inp.cfgIsa = .rv32 → va.extractLsb' 32 32 = 0) → (priv = .u ∨ priv = .s) →
    refreshConfig s.inp.cfgIsa s.inp.cfgSatp = some (mode, root) → mode ≠ .bare →
    exec i s =
      .next { s with w := { s.w with
        qPurpose := purpose, qPriv := priv, qVaddr := va, cIsa := s.inp.cfgIsa, cSum := s.inp.cfgSum, cMxr := s.inp.cfgMxr
        wReads := 0, tPte0 := 0, tPte1 := 0, tPte2 := 0, tValid := 0, cMode := mode, cRoot := root
        wLevel := if s.inp.cfgIsa = .rv32 then 1 else 2, wFrame := root, fsm := .issue } }

/-- R122: the refresh comes before the privilege check, so an unsupported RV64 MODE ends a request of every purpose at every privilege
level with a configuration error in its accept step; `c_mode` and `c_root` keep their values (R123). -/
def Obligations.UnsupportedModeEndsEveryRequest : Prop :=
  ∀ (i : Instr) (purpose : Purpose) (priv : Priv) (va : Word64) (s : State), (i, purpose) ∈ requestOps priv va →
    s.w.fsm = .idle → (priv = .rsvd → s.rsvdPriv = .identity) →
    s.inp.cfgIsa = .rv64 → s.inp.cfgSatp.extractLsb' 60 4 ≠ 0x0#4 → s.inp.cfgSatp.extractLsb' 60 4 ≠ 0x8#4 →
    exec i s =
      .next { s with w := { s.w with
        qPurpose := purpose, qPriv := priv, qVaddr := va, cIsa := .rv64, cSum := s.inp.cfgSum, cMxr := s.inp.cfgMxr
        wReads := 0, tPte0 := 0, tPte1 := 0, tPte2 := 0, tValid := 0
        rKind := .configError, rDiag := .unsupportedMode, rPaddr := 0, rCause := 0, rLevel := 0, rLeafPte := 0
        sFatalCfg := true, fsm := .resp } }

/-- The requests outside the contract stop by name: an RV32 request with a nonzero upper address half (R47, U7), and, when the
parameter says `REFUSE`, one at the reserved level (U8, D8). That the first is met before the second and both before the refresh is
the model's choice (log entries 8 and 9). -/
def Obligations.RequestsOutsideContractAreRefused : Prop :=
  ∀ (i : Instr) (purpose : Purpose) (priv : Priv) (va : Word64) (s : State), (i, purpose) ∈ requestOps priv va →
    s.w.fsm = .idle →
    (s.inp.cfgIsa = .rv32 → va.extractLsb' 32 32 ≠ 0 → exec i s = .refused .rv32HighVaddr) ∧
    ((s.inp.cfgIsa = .rv32 → va.extractLsb' 32 32 = 0) → priv = .rsvd → s.rsvdPriv = .refuse →
      exec i s = .refused .rsvdPrivRefused)

/-- R21, R22: a request presented to a busy walker is not accepted: the `TRANSLATE` rows change nothing outside `IDLE`, whatever their
operands (log entry 10). -/
def Obligations.BusyWalkerAcceptsNoRequest : Prop :=
  ∀ (i : Instr) (purpose : Purpose) (priv : Priv) (va : Word64) (s : State), (i, purpose) ∈ requestOps priv va →
    s.w.fsm ≠ .idle → exec i s = .next s

/-! ## The steps of a walk -/

/-- R167: the Memory Reader takes the read of `PteAddr(c_isa, w_frame, q_vaddr, w_level)` at the size of the ISA; the walker waits, and
the event is recorded. Nothing else changes but the passing of the inputs. -/
def Obligations.IssueStepTakesTheRead : Prop :=
  ∀ s : State, s.inp.rst = false → s.inp.memRespValid = false → s.w.fsm = .issue → s.inp.memReqReady = true →
    s.w.wLevel.toNat < levels s.w.cIsa →
    step s =
      .next (tick { s with
        w := { s.w with fsm := .wait }
        hist := ⟨pteAddr s.w.cIsa s.w.wFrame s.w.qVaddr s.w.wLevel.toNat, if s.w.cIsa = .rv32 then 4 else 8, s.w.wLevel⟩ :: s.hist }) ∧
    memReq s.w =
      some ⟨pteAddr s.w.cIsa s.w.wFrame s.w.qVaddr s.w.wLevel.toNat, if s.w.cIsa = .rv32 then 0 else 1⟩

/-- R169: a failed read counts, leaves the trace as it is, and ends the request with `MEM_READ_ERROR` at its level and the cause of
its purpose. -/
def Obligations.FailedReadEndsWithFault : Prop :=
  ∀ s : State, s.inp.rst = false → s.w.fsm = .wait → s.inp.memRespValid = true → readerAnswer s = none →
    step s =
      .next (tick { s with w := { s.w with
        wReads := s.w.wReads + 1
        rKind := .fault, rCause := cause s.w.qPurpose, rDiag := .memReadError, rLevel := s.w.wLevel, rPaddr := 0, rLeafPte := 0
        fsm := .resp } })

/-- R168, R109: a received word is cut to the ISA width (bits 31:0 zero-extended under RV32, all 64 bits under RV64), recorded, and
sorted by its bits `V`, `R`, `W`, `X` into a fault, a leaf, the end of the walk or the next table. -/
def Obligations.ReceiveStepSortsThePte : Prop :=
  (∀ data : Word64, pteWord .rv32 data = (data.extractLsb' 0 32).setWidth 64 ∧ pteWord .rv64 data = data) ∧
  ∀ (s : State) (data : Word64), s.inp.rst = false → s.w.fsm = .wait → s.inp.memRespValid = true → readerAnswer s = some data →
    s.w.wLevel.toNat < levels s.w.cIsa →
    let pte := pteWord s.w.cIsa data
    let w := s.w.recordPte pte
    let after :=
      if pte.getLsbD 0 = false then w.endFault .pteInvalid s.w.wLevel
      else if pte.getLsbD 2 = true ∧ pte.getLsbD 1 = false then w.endFault .pteReservedWnr s.w.wLevel
      else if pte.getLsbD 1 = true ∨ pte.getLsbD 3 = true then w.leafStep pte
      else if s.w.wLevel = 0 then w.endFault .noLeaf 0
      else { w with wFrame := ptePpn s.w.cIsa pte, wLevel := s.w.wLevel - 1, fsm := .issue }
    step s = .next (tick { s with w := after })

/-- R31, R32, R109: `w_reads` and the trace are 0 after a reset and cleared at acceptance; each memory response counts one; a received
word, cut to the ISA width and zero-extended, stands in the trace register of its level with its valid bit, and leaves the other
levels; no other step changes them. -/
def Obligations.ResponsesAreCountedAndTraced : Prop :=
  (∀ data : Word64, pteWord .rv32 data = (data.extractLsb' 0 32).setWidth 64 ∧ pteWord .rv64 data = data) ∧
  ∀ s t : State, step s = .next t →
    (s.inp.rst = true ∨ s.accepting → t.w.wReads = 0 ∧ t.w.tPte0 = 0 ∧ t.w.tPte1 = 0 ∧ t.w.tPte2 = 0 ∧ t.w.tValid = 0) ∧
    (s.inp.rst = false → s.w.fsm = .wait → s.inp.memRespValid = true →
      t.w.wReads = s.w.wReads + 1 ∧
      (∀ data, readerAnswer s = some data → ∀ l : Fin 3,
        [t.w.tPte0, t.w.tPte1, t.w.tPte2][l.val]? =
          (if s.w.wLevel.toNat = l.val then some (pteWord s.w.cIsa data) else [s.w.tPte0, s.w.tPte1, s.w.tPte2][l.val]?) ∧
        t.w.tValid.getLsbD l.val = (decide (s.w.wLevel.toNat = l.val) || s.w.tValid.getLsbD l.val)) ∧
      (readerAnswer s = none →
        t.w.tPte0 = s.w.tPte0 ∧ t.w.tPte1 = s.w.tPte1 ∧ t.w.tPte2 = s.w.tPte2 ∧ t.w.tValid = s.w.tValid)) ∧
    (s.inp.rst = false → ¬ s.accepting → ¬ (s.w.fsm = .wait ∧ s.inp.memRespValid = true) →
      t.w.wReads = s.w.wReads ∧ t.w.tPte0 = s.w.tPte0 ∧ t.w.tPte1 = s.w.tPte1 ∧ t.w.tPte2 = s.w.tPte2 ∧ t.w.tValid = s.w.tValid)

/-- R180, R181: a word with `V` = 0 is `PTE.INVALID` whatever its other bits; one with `V` = 1, `W` = 1 and `R` = 0 is
`PTE.RESERVED_WNR` whatever `X`. Both complete for a waiting walker: the word is recorded and the request ends with `PTE_INVALID` or
`PTE_RESERVED_WNR` at its level and the cause of its purpose. Nothing else changes. -/
def Obligations.InvalidAndReservedPtesEndWithFault : Prop :=
  (∀ data : Word64, data.getLsbD 0 = false → decode (.pte data) = .pteInvalid data) ∧
  (∀ data : Word64, data.getLsbD 0 = true → data.getLsbD 2 = true → data.getLsbD 1 = false →
    decode (.pte data) = .pteReservedWnr data) ∧
  (∀ (s : State) (data : Word64), s.w.fsm = .wait → s.w.wLevel.toNat < levels s.w.cIsa →
    exec (.pteInvalid data) s =
      .next { s with w := { s.w.recordPte (pteWord s.w.cIsa data) with
        rKind := .fault, rCause := cause s.w.qPurpose, rDiag := .pteInvalid, rLevel := s.w.wLevel, rPaddr := 0, rLeafPte := 0
        fsm := .resp } } ∧
    exec (.pteReservedWnr data) s =
      .next { s with w := { s.w.recordPte (pteWord s.w.cIsa data) with
        rKind := .fault, rCause := cause s.w.qPurpose, rDiag := .pteReservedWnr, rLevel := s.w.wLevel, rPaddr := 0, rLeafPte := 0
        fsm := .resp } })

/-- R168, R107: `PTE.POINTER` above level 0 completes by going down: the frame is PTE bits 31:10 or 53:10, the level one less, and the
next read is asked. Its flags `U`, `G`, `A` and `D` play no part (R164). Nothing else changes. -/
def Obligations.PointerPteGoesDown : Prop :=
  ∀ (s : State) (data : Word64), s.w.fsm = .wait → s.w.wLevel.toNat < levels s.w.cIsa → s.w.wLevel ≠ 0 →
    exec (.ptePointer data) s =
      .next { s with w := { s.w.recordPte (pteWord s.w.cIsa data) with
        wFrame := if s.w.cIsa = .rv32 then (data.extractLsb' 10 22).setWidth 44 else data.extractLsb' 10 44
        wLevel := s.w.wLevel - 1, fsm := .issue } }

/-- R171: a pointer PTE read at level 0 ends the request with `NO_LEAF` at level 0 and the cause of its purpose. -/
def Obligations.PointerPteAtLevelZeroFaults : Prop :=
  ∀ (s : State) (data : Word64), s.w.fsm = .wait → s.w.wLevel = 0 →
    exec (.ptePointer data) s =
      .next { s with w := { s.w.recordPte (pteWord s.w.cIsa data) with
        rKind := .fault, rCause := cause s.w.qPurpose, rDiag := .noLeaf, rLevel := 0, rPaddr := 0, rLeafPte := 0, fsm := .resp } }

/-- R191: `PTE.LEAF_R` and `PTE.LEAF_XO` complete for a waiting walker in the step that received the word: when every leaf check
passes, with the physical address, the leaf PTE and the level; else with the fault of the check that failed. Nothing else changes. -/
def Obligations.LeafPtesAreCheckedAndTranslated : Prop :=
  ∀ (s : State) (data : Word64), s.w.fsm = .wait → s.w.wLevel.toNat < levels s.w.cIsa →
    ∀ i ∈ [Instr.pteLeafR data, .pteLeafXo data],
      let pte := pteWord s.w.cIsa data
      let check := leafCheck s.w.qPurpose s.w.qPriv s.w.cSum s.w.cMxr s.w.cIsa pte s.w.wLevel.toNat
      (check = none →
        exec i s =
          .next { s with w := { s.w.recordPte pte with
            rKind := .ok, rPaddr := physAddr s.w.cIsa pte s.w.wLevel.toNat s.w.qVaddr, rCause := 0, rDiag := .none
            rLevel := s.w.wLevel, rLeafPte := pte, fsm := .resp } }) ∧
      (∀ d, check = some d →
        exec i s =
          .next { s with w := { s.w.recordPte pte with
            rKind := .fault, rPaddr := 0, rCause := cause s.w.qPurpose, rDiag := d
            rLevel := s.w.wLevel, rLeafPte := 0, fsm := .resp } })

/-- A PTE word that comes while the walker does not wait for one stops by name, whatever its class (R53, U6: a model refuses it). -/
def Obligations.PteOutsideWaitIsRefused : Prop :=
  ∀ (s : State) (data : Word64), s.w.fsm ≠ .wait → exec (decode (.pte data)) s = .refused .memResponseOutsideWait

/-- A level the ISA width does not have is asked by no rule (R100, R161): the model stops there by name, in the issue step and in every
`PTE` row (log entry 15). -/
def Obligations.LevelsTheIsaLacksStopByName : Prop :=
  ∀ s : State, levels s.w.cIsa ≤ s.w.wLevel.toNat →
    (s.w.fsm = .wait → ∀ data : Word64,
      ∀ i ∈ [Instr.pteInvalid data, .pteReservedWnr data, .ptePointer data, .pteLeafR data, .pteLeafXo data],
        exec i s = .fault .levelOutOfRange) ∧
    (s.inp.rst = false → s.inp.memRespValid = false → s.w.fsm = .issue → s.inp.memReqReady = true →
      step s = .fault .levelOutOfRange)

/-! ## Leaf checks and the physical address -/

/-- R182 to R189: the leaf checks in their order, each with its condition on the bits of the PTE and its diagnostic, at a translated
privilege level and a level the ISA width has. -/
def Obligations.LeafChecksInOrder : Prop :=
  ∀ (purpose : Purpose) (priv : Priv) (sum mxr : Bool) (isa : Isa) (pte : Word64) (level : Nat),
    (priv = .u ∨ priv = .s) → level < levels isa →
    let r := leafCheck purpose priv sum mxr isa pte level
    let fetches := purpose = .fetch ∨ purpose = .deleg
    let data := purpose = .load ∨ purpose = .storeamo
    let reachesPurpose := pte.getLsbD 6 = true ∧ (priv = .u → pte.getLsbD 4 = true)
    let sumPasses := ¬ (sum = false ∧ priv = .s ∧ pte.getLsbD 4 = true)
    let readable := pte.getLsbD 1 = true ∨ (mxr = true ∧ pte.getLsbD 3 = true)
    let purposePasses :=
      (fetches → pte.getLsbD 3 = true) ∧ (data → sumPasses) ∧ (purpose = .load → readable) ∧
      (purpose = .storeamo → pte.getLsbD 2 = true ∧ pte.getLsbD 7 = true)
    let misaligned :=
      (isa = .rv32 ∧ level = 1 ∧ pte.extractLsb' 10 10 ≠ 0) ∨
      (isa = .rv64 ∧ 1 ≤ level ∧ pte.extractLsb' 10 9 ≠ 0) ∨ (isa = .rv64 ∧ level = 2 ∧ pte.extractLsb' 19 9 ≠ 0)
    (pte.getLsbD 6 = false → r = some .accessedClear) ∧
    (pte.getLsbD 6 = true → priv = .u → pte.getLsbD 4 = false → r = some .userDenied) ∧
    (reachesPurpose → fetches → pte.getLsbD 3 = false → r = some .execDenied) ∧
    (reachesPurpose → data → ¬ sumPasses → r = some .sumDenied) ∧
    (reachesPurpose → purpose = .load → sumPasses → ¬ readable → r = some .readDenied) ∧
    (reachesPurpose → purpose = .storeamo → sumPasses → pte.getLsbD 2 = false → r = some .writeDenied) ∧
    (reachesPurpose → purpose = .storeamo → sumPasses → pte.getLsbD 2 = true → pte.getLsbD 7 = false → r = some .dirtyClear) ∧
    (reachesPurpose → purposePasses → misaligned → r = some .misalignedSuperpage) ∧
    (reachesPurpose → purposePasses → ¬ misaligned → r = none)

/-- R190 with R189: the physical address segment by segment; and, when the replaced PPN segments are zero, the frame number with the
low bits of the virtual address in their place. -/
def Obligations.PhysicalAddressIsReconstructed : Prop :=
  (∀ (pte va : Word64) (level : Nat), level < 2 →
    physAddr .rv32 pte level va =
      (pte.extractLsb' 20 12 ++ (if level = 0 then pte.extractLsb' 10 10 else va.extractLsb' 12 10) ++ va.extractLsb' 0 12).setWidth 64) ∧
  (∀ (pte va : Word64) (level : Nat), level < 3 →
    physAddr .rv64 pte level va =
      (pte.extractLsb' 28 26 ++ (if level = 2 then va.extractLsb' 21 9 else pte.extractLsb' 19 9) ++
        (if level = 0 then pte.extractLsb' 10 9 else va.extractLsb' 12 9) ++ va.extractLsb' 0 12).setWidth 64) ∧
  (∀ (isa : Isa) (pte va : Word64) (level : Nat), level < levels isa → misalignedSuperpage isa pte level = false →
    physAddr isa pte level va =
      ((ptePpn isa pte).setWidth 64 <<< 12) ||| (va &&& (BitVec.ofNat 64 (2 ^ (12 + vpnBits isa * level) - 1))))

/-- R192, R50: a leaf maps a page of 4 KiB, 4 MiB (Sv32), 2 MiB or 1 GiB (Sv39) by its level: inside the page the physical address has
the low bits of the virtual address and its upper part does not depend on it; it is a 34-bit or a 56-bit address. -/
def Obligations.LeafMapsOnePage : Prop :=
  ∀ (isa : Isa) (pte : Word64) (level pageSize : Nat),
    (isa, level, pageSize) ∈ [(Isa.rv32, 0, 4096), (.rv32, 1, 4194304), (.rv64, 0, 4096), (.rv64, 1, 2097152), (.rv64, 2, 1073741824)] →
    ∀ va va' : Word64,
      (physAddr isa pte level va).toNat % pageSize = va.toNat % pageSize ∧
      (physAddr isa pte level va).toNat / pageSize = (physAddr isa pte level va').toNat / pageSize ∧
      (physAddr isa pte level va).toNat < 2 ^ (if isa = .rv32 then 34 else 56)

/-- R91, R73, U11: the bits the block ignores have no effect: PTE bits 9:8, 5 and 63:54 on the class, the leaf checks, the frame number
and the physical address; bits 9:4 of a pointer on its class and frame number; bits 63:32 of an RV32 read on the received PTE and the
next state; VA bits 63:39 under Sv39 on the walk's addresses and the result; the unnamed fields of the root register on the refresh. -/
def Obligations.IgnoredBitsHaveNoEffect : Prop :=
  (∀ pte pte' : Word64, pte &&& 0x003FFFFFFFFFFCDF#64 = pte' &&& 0x003FFFFFFFFFFCDF#64 →
    (∀ isa, ptePpn isa pte = ptePpn isa pte') ∧
    (decode (.pte pte)).row = (decode (.pte pte')).row ∧
    (∀ purpose priv sum mxr isa level, leafCheck purpose priv sum mxr isa pte level = leafCheck purpose priv sum mxr isa pte' level) ∧
    (∀ isa level va, physAddr isa pte level va = physAddr isa pte' level va)) ∧
  (∀ pte pte' : Word64, pte &&& 0x003FFFFFFFFFFC0F#64 = pte' &&& 0x003FFFFFFFFFFC0F#64 →
    (∀ isa, ptePpn isa pte = ptePpn isa pte') ∧ (decode (.pte pte)).row = (decode (.pte pte')).row) ∧
  (∀ data data' : Word64, data.extractLsb' 0 32 = data'.extractLsb' 0 32 →
    pteWord .rv32 data = pteWord .rv32 data' ∧
    ∀ s : State, s.w.cIsa = .rv32 →
      exec (decode (.pte data)) s = exec (decode (.pte data')) s ∧
      step { s with inp := { s.inp with memRespData := data } } = step { s with inp := { s.inp with memRespData := data' } }) ∧
  (∀ va va' : Word64, va.extractLsb' 0 39 = va'.extractLsb' 0 39 →
    (∀ frame level, level < 3 → pteAddr .rv64 frame va level = pteAddr .rv64 frame va' level) ∧
    (∀ pte level, physAddr .rv64 pte level va = physAddr .rv64 pte level va')) ∧
  (∀ satp satp' : Word64, satp &&& 0x803FFFFF#64 = satp' &&& 0x803FFFFF#64 → refreshConfig .rv32 satp = refreshConfig .rv32 satp') ∧
  (∀ satp satp' : Word64, satp &&& 0xF0000FFFFFFFFFFF#64 = satp' &&& 0xF0000FFFFFFFFFFF#64 →
    refreshConfig .rv64 satp = refreshConfig .rv64 satp')

/-! ## Response, reset, holding, outputs -/

/-- R34: a held response stays as it is, whatever the other inputs, until `rsp_ready`; the step that takes it changes the walker state
and nothing else. -/
def Obligations.ResponseIsHeldUntilTaken : Prop :=
  ∀ s : State, s.inp.rst = false → s.inp.memRespValid = false → s.w.fsm = .resp →
    (s.inp.rspReady = false → step s = .next (tick s)) ∧
    (s.inp.rspReady = true → step s = .next (tick { s with w := { s.w with fsm := .idle } }))

/-- R166, R175: with no request in `IDLE`, no taker in `ISSUE` and no answer in `WAIT` the walker holds: no register changes. -/
def Obligations.WalkerHoldsForOtherAgents : Prop :=
  ∀ s : State, s.inp.rst = false → s.inp.memRespValid = false →
    (s.w.fsm = .idle ∧ s.inp.reqValid = false) ∨ (s.w.fsm = .issue ∧ s.inp.memReqReady = false) ∨ s.w.fsm = .wait →
    step s = .next (tick s)

/-- R250: a step with `rst` = 1 sets every register to its reset value whatever the state and the other inputs; it accepts no request
(`req_ready` is 0) and neither issues nor receives a read. That the history, the image and the parameter are not reset is the model's
reading (log entry 7). -/
def Obligations.ResetOverridesEveryStep : Prop :=
  ∀ s : State, s.inp.rst = true →
    ∃ t, step s = .next t ∧ t.w = State.reset.w ∧ t.hist = s.hist ∧ t.mem = storeBytes s.mem s.inp.envStores ∧
      t.rsvdPriv = s.rsvdPriv ∧ reqReady s = false

/-- R39: the reset value of every register; `rsp_valid` and `mem_req_valid`, which qualify the outputs, are both 0 then. -/
def Obligations.ResetValuesOfEveryRegister : Prop :=
  let w := State.reset.w
  w.fsm = .idle ∧ w.qPurpose.code = 0 ∧ w.qPriv.code = 0 ∧ w.qVaddr = 0 ∧ w.cIsa = .rv32 ∧ w.cMode = .bare ∧ w.cRoot = 0 ∧
  w.cSum = false ∧ w.cMxr = false ∧ w.wLevel = 0 ∧ w.wFrame = 0 ∧ w.wReads = 0 ∧ w.tPte0 = 0 ∧ w.tPte1 = 0 ∧ w.tPte2 = 0 ∧
  w.tValid = 0 ∧ w.rKind.code = 0 ∧ w.rPaddr = 0 ∧ w.rCause = 0 ∧ w.rDiag.code = 0 ∧ w.rLevel = 0 ∧ w.rLeafPte = 0 ∧
  w.sFatalCfg = false ∧ rspValid w = false ∧ memReqValid w = false

/-- R23: the output ports, from the registers; `req_ready` alone is gated by `rst`. That an output without a meaning is answered
by none, where R23 says that its port shows the register's value, is the model's choice (log entry 16). -/
def Obligations.OutputsFollowTheRegisters : Prop :=
  ∀ s : State,
    reqReady s = (decide (s.w.fsm = .idle) && !s.inp.rst) ∧
    busy s.w = decide (s.w.fsm ≠ .idle) ∧ fatalCfg s.w = s.w.sFatalCfg ∧
    memReqValid s.w = decide (s.w.fsm = .issue) ∧ rspValid s.w = decide (s.w.fsm = .resp) ∧
    (s.w.fsm = .issue →
      memReq s.w = some ⟨pteAddr s.w.cIsa s.w.wFrame s.w.qVaddr s.w.wLevel.toNat, if s.w.cIsa = .rv32 then 0 else 1⟩) ∧
    (s.w.fsm ≠ .issue → memReq s.w = none) ∧
    (s.w.fsm = .resp →
      response s.w = some
        { kind := s.w.rKind.code, paddr := s.w.rPaddr, cause := s.w.rCause, diag := s.w.rDiag.code, level := s.w.rLevel
          reads := s.w.wReads, vaddr := s.w.qVaddr, leafPte := s.w.rLeafPte, pte0 := s.w.tPte0, pte1 := s.w.tPte1
          pte2 := s.w.tPte2, pteValid := s.w.tValid }) ∧
    (s.w.fsm ≠ .resp → response s.w = none)

/-! ## A step runs the decoded instruction -/

/-- R165, R168: the step of an idle walker with a request is the run of the request's instruction, and the step of a waiting walker with
an answered word is the run of the word's instruction; after either the inputs pass, which changes no register, no recorded read and
no parameter. -/
def Obligations.StepRunsTheDecodedInstruction : Prop :=
  (∀ s : State, s.accepting →
    step s = thenTick (exec (decode (.req (s.inp.reqPriv ++ s.inp.reqPurpose) s.inp.reqVaddr)) s)) ∧
  (∀ (s : State) (data : Word64), s.inp.rst = false → s.w.fsm = .wait → s.inp.memRespValid = true → readerAnswer s = some data →
    step s = thenTick (exec (decode (.pte data)) s)) ∧
  (∀ s : State, thenTick (.next s) = .next (tick s) ∧ (tick s).w = s.w ∧ (tick s).hist = s.hist ∧ (tick s).rsvdPriv = s.rsvdPriv ∧
    (tick s).inp = s.sched.headD Inputs.quiet ∧ (tick s).sched = s.sched.tail ∧ (tick s).mem = storeBytes s.mem s.inp.envStores)

/-- R165: the accept step of a request inside the contract is: latch the request, run the row of the root register on the ports, and,
unless that row ended the request, dispatch. That the row has no step of its own is the model's reading (log entry 11). -/
def Obligations.AcceptStepRunsTheRootRegisterRow : Prop :=
  ∀ s : State, s.accepting → s.requestInContract → s.acceptsThrough (decodeRoot s.inp.cfgIsa s.inp.cfgSatp)

/-- The place of a table word: in the state `withFetchWord` gives, the next step runs the instruction the decoder reads from the word,
a command word as the request itself, a root register as the row of the accept step of a request inside the contract (log entries 11,
13 and 14). -/
def Obligations.PlacedWordIsTheOneRun : Prop :=
  ∀ (s : State) (w : Nat),
    (w < 2 ^ 4 → ∃ i, decodeTableWord 8 w = some i ∧
      step (s.withFetchWord 8 w) = thenTick (exec i (s.withFetchWord 8 w))) ∧
    (w < 2 ^ 32 → ∃ i, decodeTableWord 32 w = some i ∧ (s.withFetchWord 32 w).accepting ∧
      (s.withFetchWord 32 w).requestInContract ∧ (s.withFetchWord 32 w).acceptsThrough i) ∧
    (w < 2 ^ 64 → ∃ i, decodeTableWord 64 w = some i ∧ (s.withFetchWord 64 w).accepting ∧
      (s.withFetchWord 64 w).requestInContract ∧ (s.withFetchWord 64 w).acceptsThrough i)

/-! ## Invariants and whole-machine rules -/

/-- Every step keeps the invariant: the bounds of a walk, the form of a held response with its cause and read count, the widths under
RV32, the canonical image, aligned reads (R28, R30 to R33, R56, R161, R221, R259). -/
def Obligations.StepKeepsInvariant : Prop := ∀ s t : State, s.inv → step s = .next t → t.inv

/-- The state after reset meets the invariant. -/
def Obligations.ResetMeetsInvariant : Prop := State.reset.inv

/-- R161: from a state that meets the invariant no step asks for a level the ISA width does not have: the fault of the model is out of
reach. -/
def Obligations.StepFromInvariantNeverFaults : Prop := ∀ (s : State) (f : Fault), s.inv → step s ≠ .fault f

/-- A step is refused exactly when its inputs are outside the contract, by the names of U6, U7 and U8: nothing that could be executed
is refused. -/
def Obligations.StepRefusesExactlyOutsideContract : Prop :=
  ∀ (s : State) (r : Refusal), step s = .refused r ↔
    s.inp.rst = false ∧
    ((s.inp.memRespValid = true ∧ s.w.fsm ≠ .wait ∧ r = .memResponseOutsideWait) ∨
     (s.accepting ∧ s.inp.cfgIsa = .rv32 ∧ s.inp.reqVaddr.extractLsb' 32 32 ≠ 0 ∧ r = .rv32HighVaddr) ∨
     (s.accepting ∧ (s.inp.cfgIsa = .rv32 → s.inp.reqVaddr.extractLsb' 32 32 = 0) ∧ s.inp.reqPriv = 2 ∧ s.rsvdPriv = .refuse ∧
      r = .rsvdPrivRefused))

/-- Frame of every instruction: the registers of the block are all it can change; the inputs, the schedule, every byte of the image,
the recorded reads and the parameter stay (R51). -/
def Obligations.InstructionsChangeOnlyRegisters : Prop :=
  ∀ (i : Instr) (s t : State), exec i s = .next t →
    t.inp = s.inp ∧ t.sched = s.sched ∧ (∀ a, readByte t.mem a = readByte s.mem a) ∧ t.mem = s.mem ∧ t.hist = s.hist ∧
    t.rsvdPriv = s.rsvdPriv

/-- R51, R174: the block never writes memory (the image changes by other agents' stores only), and it reads only the PTE address of
R162, one read in a step, and only from `ISSUE`; every issued read leaves the walker waiting. -/
def Obligations.BlockOnlyReadsPteAddresses : Prop :=
  ∀ s t : State, step s = .next t →
    t.mem = storeBytes s.mem s.inp.envStores ∧
    (t.hist = s.hist ∨
      (s.w.fsm = .issue ∧ s.inp.memReqReady = true ∧ t.w.fsm = .wait ∧
        t.hist = ⟨pteAddr s.w.cIsa s.w.wFrame s.w.qVaddr s.w.wLevel.toNat, if s.w.cIsa = .rv32 then 4 else 8, s.w.wLevel⟩ :: s.hist))

/-- R27, R28: the request latch and the configuration snapshot are 0 after a reset; at acceptance the latch takes the request and the
snapshot the ISA width, SUM and MXR on the ports; no other step writes them. -/
def Obligations.LatchesChangeOnlyAtAcceptance : Prop :=
  ∀ s t : State, step s = .next t →
    (s.inp.rst = true →
      t.w.qPurpose.code = 0 ∧ t.w.qPriv.code = 0 ∧ t.w.qVaddr = 0 ∧ t.w.cIsa.code = 0 ∧ t.w.cMode.code = 0 ∧ t.w.cRoot = 0 ∧
      t.w.cSum = false ∧ t.w.cMxr = false) ∧
    (s.accepting →
      t.w.qPurpose.code = s.inp.reqPurpose ∧ t.w.qPriv.code = s.inp.reqPriv ∧ t.w.qVaddr = s.inp.reqVaddr ∧
      t.w.cIsa = s.inp.cfgIsa ∧ t.w.cSum = s.inp.cfgSum ∧ t.w.cMxr = s.inp.cfgMxr) ∧
    (s.inp.rst = false → ¬ s.accepting →
      t.w.qPurpose = s.w.qPurpose ∧ t.w.qPriv = s.w.qPriv ∧ t.w.qVaddr = s.w.qVaddr ∧ t.w.cIsa = s.w.cIsa ∧ t.w.cMode = s.w.cMode ∧
      t.w.cRoot = s.w.cRoot ∧ t.w.cSum = s.w.cSum ∧ t.w.cMxr = s.w.cMxr)

/-- R22, R254: while the walker is busy no step depends on the request and configuration inputs. -/
def Obligations.BusyStepIgnoresRequestAndConfiguration : Prop :=
  ∀ (s : State) (valid : Bool) (purpose priv : BitVec 2) (va satp : Word64) (isa : Isa) (sum mxr : Bool), s.w.fsm ≠ .idle →
    step { s with inp := { s.inp with
      reqValid := valid, reqPurpose := purpose, reqPriv := priv, reqVaddr := va, cfgIsa := isa, cfgSatp := satp
      cfgSum := sum, cfgMxr := mxr } } = step s

/-- R21: the walker leaves `IDLE` only by accepting a request and comes back to it only when its response has been taken, or by reset;
between them it moves only along the rules of 43_walk.md section 2: it waits until its one read is answered, and issues the next from
`ISSUE` only. -/
def Obligations.WalkerServesOneRequestAtATime : Prop :=
  ∀ s t : State, step s = .next t → s.inp.rst = false →
    (s.w.fsm = .idle → t.w.fsm ≠ .idle → s.inp.reqValid = true ∧ reqReady s = true ∧ (t.w.fsm = .issue ∨ t.w.fsm = .resp)) ∧
    (s.w.fsm ≠ .idle → t.w.fsm = .idle → s.w.fsm = .resp ∧ s.inp.rspReady = true) ∧
    (s.w.fsm = .issue → t.w.fsm = .issue ∨ t.w.fsm = .wait) ∧
    (s.w.fsm = .wait → (s.inp.memRespValid = false ∧ t.w.fsm = .wait) ∨ (s.inp.memRespValid = true ∧ (t.w.fsm = .issue ∨ t.w.fsm = .resp))) ∧
    (t.hist ≠ s.hist → s.w.fsm = .issue ∧ t.w.fsm = .wait) ∧
    (s.w.fsm = .resp → t.w.fsm = .resp ∨ t.w.fsm = .idle)

/-- R35: `s_fatal_cfg` is set by a request that ends with a configuration error, and only so; only reset clears it; it stops no later
request. -/
def Obligations.FatalFlagIsSticky : Prop :=
  ∀ s t : State, step s = .next t →
    (s.inp.rst = true → t.w.sFatalCfg = false) ∧
    (s.inp.rst = false → s.w.sFatalCfg = true → t.w.sFatalCfg = true) ∧
    (s.inp.rst = false → s.w.sFatalCfg = false → t.w.sFatalCfg = true →
      s.accepting ∧ t.w.fsm = .resp ∧ t.w.rKind = .configError) ∧
    (s.inp.rst = false → s.accepting → t.w.fsm = .resp → t.w.rKind = .configError → t.w.sFatalCfg = true) ∧
    (∃ u, step { s with w := { s.w with sFatalCfg := !s.w.sFatalCfg } } = .next u ∧ u.w.fsm = t.w.fsm ∧ u.w.rKind = t.w.rKind ∧
      u.w.rPaddr = t.w.rPaddr)

/-- R221: the cause of every response is that of its purpose when it is a fault, 12 for `FETCH` and `DELEG`, 13 for `LOAD`, 15 for
`STOREAMO`, and 0 when it is not. -/
def Obligations.EveryFaultCarriesTheCauseOfItsPurpose : Prop :=
  ∀ s t : State, step s = .next t → s.w.fsm ≠ .resp → t.w.fsm = .resp →
    (t.w.rKind = .fault →
      (t.w.qPurpose = .fetch ∨ t.w.qPurpose = .deleg → t.w.rCause = 12) ∧ (t.w.qPurpose = .load → t.w.rCause = 13) ∧
      (t.w.qPurpose = .storeamo → t.w.rCause = 15)) ∧
    (t.w.rKind ≠ .fault → t.w.rCause = 0)

/-- R161, R259: a step inside a walk either holds or brings the response nearer, by a measure of two steps a read that starts at four
(RV32) or six (RV64). -/
def Obligations.WalkStepsBringTheResponseNearer : Prop :=
  (∀ s t : State, step s = .next t → s.inp.rst = false → s.w.walking → t.w = s.w ∨ t.w.stepsLeft < s.w.stepsLeft) ∧
  (∀ s t : State, step s = .next t → s.accepting →
    t.w.stepsLeft ≤ (if s.inp.cfgIsa = .rv32 then 4 else 6) ∧ (t.w.stepsLeft = 0 → t.w.fsm = .resp))

/-! ## The image behind the Memory Reader -/

/-- R54, R59: the image answers a read with the word whose bytes, the lowest address being bits 7:0, it lists, at the size of the ISA
(an RV32 word zero-extended), and with `ReadError` when it lists one of them not. -/
def Obligations.ImageAnswersLittleEndianWords : Prop :=
  ∀ (m : Memory) (isa : Isa) (a : PteAddress),
    (∀ w : Word64, readImage m isa a = some w ↔
      (∀ k, k < (if isa = .rv32 then 4 else 8) → readByte m (a.toNat + k) = some (w.extractLsb' (8 * k) 8)) ∧
      (isa = .rv32 → w.extractLsb' 32 32 = 0)) ∧
    (readImage m isa a = none ↔ ∃ k, k < (if isa = .rv32 then 4 else 8) ∧ readByte m (a.toNat + k) = none)

/-! ## The contract of a request -/

/-- R161: a walk makes between 1 and `LEVELS` reads, and its end is at a level the ISA width has, one read for each level from the top
down to it (R259), whatever the page tables. -/
def Obligations.WalkMakesOneReadPerLevel : Prop :=
  ∀ (isa : Isa) (va : Word64) (root : Frame) (mem : ReadOracle),
    ∃ level reads : Nat, 1 ≤ reads ∧ reads ≤ levels isa ∧ level < levels isa ∧ reads + level = levels isa ∧
      ((∃ pte, walk isa va root mem = .leaf pte level reads ∧ isLeaf pte = true ∧ isInvalid pte = false ∧ isReservedWnr pte = false) ∨
        ∃ d, walk isa va root mem = .fault d level reads)

/-- R148: the properties of `Translate` that the source states: identity under Bare and at `M`; a walk that ends with a fault, a
leaf with `A` = 0, a store to a leaf with `W` = 1 and `D` = 0 and a walk of pointers only each end with the cause of the purpose; and a
PTE with `V` = 0 ends the walk at whatever level it is read. -/
def Obligations.TranslateHasTheStatedProperties : Prop :=
  ∀ (purpose : Purpose) (priv : Priv) (va : Word64) (isa : Isa) (satp : Word64) (sum mxr : Bool) (mem : ReadOracle) (mode : Mode)
    (root : Frame), refreshConfig isa satp = some (mode, root) →
    let r := translate purpose priv va isa satp sum mxr mem
    (mode = .bare → r = (.ok va, 0)) ∧
    (priv = .m → r = (.ok va, 0)) ∧
    ((priv = .u ∨ priv = .s) → mode ≠ .bare →
      (∀ d level reads, walk isa va root mem = .fault d level reads → r = (.pageFault (cause purpose) d level, reads)) ∧
      (∀ pte level reads, walk isa va root mem = .leaf pte level reads → pte.getLsbD 6 = false →
        ∃ d, r = (.pageFault (cause purpose) d level, reads)) ∧
      (∀ pte level reads, walk isa va root mem = .leaf pte level reads → purpose = .storeamo → pte.getLsbD 2 = true →
        pte.getLsbD 7 = false → ∃ d, r = (.pageFault 15 d level, reads)) ∧
      ((∀ k a, ∃ data, mem k a = some data ∧ data.extractLsb' 0 4 = 0x1#4) →
        r = (.pageFault (cause purpose) .noLeaf 0, levels isa))) ∧
    (∀ level frame k data, mem k (pteAddr isa frame va level) = some data → data.getLsbD 0 = false →
      walkFrom isa va mem level frame k = .fault .pteInvalid level (k + 1))

/-- R173: whatever the timing of the handshakes, when an accepted request reaches its response, the response registers hold what
`Translate` returns for the Memory Reader that answered it, after exactly as many reads. -/
def Obligations.WalkerAgreesWithTranslate : Prop :=
  ∀ (mem : ReadOracle) (s t : State), s.accepting → ServedBy mem s t → t.w.fsm = .resp →
    heldTranslation t.w = (s.requestResult mem).1 ∧ t.w.wReads.toNat = (s.requestResult mem).2

/-- R173, R259: a request inside the contract, with a Memory Reader that takes each read at once and answers it from its image, reaches
its response in one accept step and two steps a read, with the result of `Translate` on that image. -/
def Obligations.PromptRequestIsServed : Prop :=
  ∀ s : State, s.accepting → s.requestInContract → s.inp.envStores = [] → s.sched = promptReader 3 →
    let r := s.requestResult (imageOracle s.mem s.inp.cfgIsa)
    ∃ t, core.run (1 + 2 * r.2) s = .next t ∧ t.w.fsm = .resp ∧ heldTranslation t.w = r.1 ∧ t.w.wReads.toNat = r.2 ∧
      r.2 ≤ levels s.inp.cfgIsa

/-! ## Codes and stores -/

/-- R80 to R86: the codes of the enumerations on the ports, value by value. No value has a code that is never driven or written:
`rsp_kind` 3, `rsp_diag` 14 and 15, `c_mode` 3; that the types leave them out is the model's choice (log entry 2). -/
def Obligations.EnumerationCodesAreThoseOfThePorts : Prop :=
  (RspKind.ok.code = 0 ∧ RspKind.fault.code = 1 ∧ RspKind.configError.code = 2) ∧
  (Diag.none.code = 0 ∧ Diag.unsupportedMode.code = 1 ∧ Diag.memReadError.code = 2 ∧ Diag.pteInvalid.code = 3 ∧
    Diag.pteReservedWnr.code = 4 ∧ Diag.noLeaf.code = 5 ∧ Diag.accessedClear.code = 6 ∧ Diag.userDenied.code = 7 ∧
    Diag.execDenied.code = 8 ∧ Diag.sumDenied.code = 9 ∧ Diag.readDenied.code = 10 ∧ Diag.writeDenied.code = 11 ∧
    Diag.dirtyClear.code = 12 ∧ Diag.misalignedSuperpage.code = 13) ∧
  (Purpose.fetch.code = 0 ∧ Purpose.load.code = 1 ∧ Purpose.storeamo.code = 2 ∧ Purpose.deleg.code = 3) ∧
  (Priv.u.code = 0 ∧ Priv.s.code = 1 ∧ Priv.rsvd.code = 2 ∧ Priv.m.code = 3) ∧ (Isa.rv32.code = 0 ∧ Isa.rv64.code = 1) ∧
  (Mode.bare.code = 0 ∧ Mode.sv32.code = 1 ∧ Mode.sv39.code = 2) ∧
  (Fsm.idle.code = 0 ∧ Fsm.issue.code = 1 ∧ Fsm.wait.code = 2 ∧ Fsm.resp.code = 3) ∧
  (∀ k : RspKind, k.code ≠ 3) ∧ (∀ d : Diag, d.code ≠ 14 ∧ d.code ≠ 15) ∧ (∀ m : Mode, m.code ≠ 3)

/-- R62, R54: a byte that another agent stores reads back, the last store of a step to an address counting, and every other address
reads as before, from any image in canonical form: of the stores of one step, and so of the image after every step. That the stores of
a step land at its end, in their order, is the model's choice (log entry 4). -/
def Obligations.StoresOfOtherAgentsReadBack : Prop :=
  (∀ (m : Memory) (stores : List (Word64 × Byte)) (a : Nat), Memory.wf m →
    readByte (storeBytes m stores) a =
      match stores.reverse.find? (fun c => c.1.toNat == a) with
      | some c => some c.2
      | none => readByte m a) ∧
  (∀ s t : State, Memory.wf s.mem → step s = .next t →
    (∀ c ∈ s.inp.envStores, ∃ b, (c.1, b) ∈ s.inp.envStores ∧ readByte t.mem c.1.toNat = some b) ∧
    (∀ a : Nat, (∀ c ∈ s.inp.envStores, c.1.toNat ≠ a) → readByte t.mem a = readByte s.mem a))
end

