-- ==== Sys2Proof/Laws/State.lean ====
section
/-! SUPPORT. What each update of the registers and of the state does to each field: one lemma per field per update. -/

namespace Sys2Proof.Machine

/-! ## Updates of the state -/

@[simp] theorem onWalker_w (f : Walker → Walker) (s : State) : (s.onWalker f).w = f s.w := rfl
@[simp] theorem onWalker_inp (f : Walker → Walker) (s : State) : (s.onWalker f).inp = s.inp := rfl
@[simp] theorem onWalker_sched (f : Walker → Walker) (s : State) : (s.onWalker f).sched = s.sched := rfl
@[simp] theorem onWalker_mem (f : Walker → Walker) (s : State) : (s.onWalker f).mem = s.mem := rfl
@[simp] theorem onWalker_hist (f : Walker → Walker) (s : State) : (s.onWalker f).hist = s.hist := rfl
@[simp] theorem onWalker_rsvdPriv (f : Walker → Walker) (s : State) : (s.onWalker f).rsvdPriv = s.rsvdPriv := rfl

@[simp] theorem tick_w (s : State) : (tick s).w = s.w := rfl
@[simp] theorem tick_inp (s : State) : (tick s).inp = s.sched.headD Inputs.quiet := rfl
@[simp] theorem tick_sched (s : State) : (tick s).sched = s.sched.tail := rfl
@[simp] theorem tick_mem (s : State) : (tick s).mem = storeBytes s.mem s.inp.envStores := rfl
@[simp] theorem tick_hist (s : State) : (tick s).hist = s.hist := rfl
@[simp] theorem tick_rsvdPriv (s : State) : (tick s).rsvdPriv = s.rsvdPriv := rfl

@[simp] theorem thenTick_next (s : State) : thenTick (.next s) = .next (tick s) := rfl
@[simp] theorem thenTick_fault (f : Fault) : thenTick (.fault f) = .fault f := rfl
@[simp] theorem thenTick_refused (r : Refusal) : thenTick (.refused r) = .refused r := rfl

/-! ## `Walker.endOk` -/

@[simp] theorem endOk_fsm (pa leafPte : Word64) (level : BitVec 2) (w : Walker) : (w.endOk pa leafPte level).fsm = .resp := rfl
@[simp] theorem endOk_qPurpose (pa leafPte : Word64) (level : BitVec 2) (w : Walker) :
    (w.endOk pa leafPte level).qPurpose = w.qPurpose := rfl
@[simp] theorem endOk_qPriv (pa leafPte : Word64) (level : BitVec 2) (w : Walker) :
    (w.endOk pa leafPte level).qPriv = w.qPriv := rfl
@[simp] theorem endOk_qVaddr (pa leafPte : Word64) (level : BitVec 2) (w : Walker) :
    (w.endOk pa leafPte level).qVaddr = w.qVaddr := rfl
@[simp] theorem endOk_cIsa (pa leafPte : Word64) (level : BitVec 2) (w : Walker) :
    (w.endOk pa leafPte level).cIsa = w.cIsa := rfl
@[simp] theorem endOk_cMode (pa leafPte : Word64) (level : BitVec 2) (w : Walker) :
    (w.endOk pa leafPte level).cMode = w.cMode := rfl
@[simp] theorem endOk_cRoot (pa leafPte : Word64) (level : BitVec 2) (w : Walker) :
    (w.endOk pa leafPte level).cRoot = w.cRoot := rfl
@[simp] theorem endOk_cSum (pa leafPte : Word64) (level : BitVec 2) (w : Walker) :
    (w.endOk pa leafPte level).cSum = w.cSum := rfl
@[simp] theorem endOk_cMxr (pa leafPte : Word64) (level : BitVec 2) (w : Walker) :
    (w.endOk pa leafPte level).cMxr = w.cMxr := rfl
@[simp] theorem endOk_wLevel (pa leafPte : Word64) (level : BitVec 2) (w : Walker) :
    (w.endOk pa leafPte level).wLevel = w.wLevel := rfl
@[simp] theorem endOk_wFrame (pa leafPte : Word64) (level : BitVec 2) (w : Walker) :
    (w.endOk pa leafPte level).wFrame = w.wFrame := rfl
@[simp] theorem endOk_wReads (pa leafPte : Word64) (level : BitVec 2) (w : Walker) :
    (w.endOk pa leafPte level).wReads = w.wReads := rfl
@[simp] theorem endOk_tPte0 (pa leafPte : Word64) (level : BitVec 2) (w : Walker) :
    (w.endOk pa leafPte level).tPte0 = w.tPte0 := rfl
@[simp] theorem endOk_tPte1 (pa leafPte : Word64) (level : BitVec 2) (w : Walker) :
    (w.endOk pa leafPte level).tPte1 = w.tPte1 := rfl
@[simp] theorem endOk_tPte2 (pa leafPte : Word64) (level : BitVec 2) (w : Walker) :
    (w.endOk pa leafPte level).tPte2 = w.tPte2 := rfl
@[simp] theorem endOk_tValid (pa leafPte : Word64) (level : BitVec 2) (w : Walker) :
    (w.endOk pa leafPte level).tValid = w.tValid := rfl
@[simp] theorem endOk_rKind (pa leafPte : Word64) (level : BitVec 2) (w : Walker) : (w.endOk pa leafPte level).rKind = .ok := rfl
@[simp] theorem endOk_rPaddr (pa leafPte : Word64) (level : BitVec 2) (w : Walker) :
    (w.endOk pa leafPte level).rPaddr = pa := rfl
@[simp] theorem endOk_rCause (pa leafPte : Word64) (level : BitVec 2) (w : Walker) : (w.endOk pa leafPte level).rCause = 0 := rfl
@[simp] theorem endOk_rDiag (pa leafPte : Word64) (level : BitVec 2) (w : Walker) :
    (w.endOk pa leafPte level).rDiag = .none := rfl
@[simp] theorem endOk_rLevel (pa leafPte : Word64) (level : BitVec 2) (w : Walker) :
    (w.endOk pa leafPte level).rLevel = level := rfl
@[simp] theorem endOk_rLeafPte (pa leafPte : Word64) (level : BitVec 2) (w : Walker) :
    (w.endOk pa leafPte level).rLeafPte = leafPte := rfl
@[simp] theorem endOk_sFatalCfg (pa leafPte : Word64) (level : BitVec 2) (w : Walker) :
    (w.endOk pa leafPte level).sFatalCfg = w.sFatalCfg := rfl

/-! ## `Walker.endFault` -/

@[simp] theorem endFault_fsm (diag : Diag) (level : BitVec 2) (w : Walker) : (w.endFault diag level).fsm = .resp := rfl
@[simp] theorem endFault_qPurpose (diag : Diag) (level : BitVec 2) (w : Walker) :
    (w.endFault diag level).qPurpose = w.qPurpose := rfl
@[simp] theorem endFault_qPriv (diag : Diag) (level : BitVec 2) (w : Walker) : (w.endFault diag level).qPriv = w.qPriv := rfl
@[simp] theorem endFault_qVaddr (diag : Diag) (level : BitVec 2) (w : Walker) : (w.endFault diag level).qVaddr = w.qVaddr := rfl
@[simp] theorem endFault_cIsa (diag : Diag) (level : BitVec 2) (w : Walker) : (w.endFault diag level).cIsa = w.cIsa := rfl
@[simp] theorem endFault_cMode (diag : Diag) (level : BitVec 2) (w : Walker) : (w.endFault diag level).cMode = w.cMode := rfl
@[simp] theorem endFault_cRoot (diag : Diag) (level : BitVec 2) (w : Walker) : (w.endFault diag level).cRoot = w.cRoot := rfl
@[simp] theorem endFault_cSum (diag : Diag) (level : BitVec 2) (w : Walker) : (w.endFault diag level).cSum = w.cSum := rfl
@[simp] theorem endFault_cMxr (diag : Diag) (level : BitVec 2) (w : Walker) : (w.endFault diag level).cMxr = w.cMxr := rfl
@[simp] theorem endFault_wLevel (diag : Diag) (level : BitVec 2) (w : Walker) : (w.endFault diag level).wLevel = w.wLevel := rfl
@[simp] theorem endFault_wFrame (diag : Diag) (level : BitVec 2) (w : Walker) : (w.endFault diag level).wFrame = w.wFrame := rfl
@[simp] theorem endFault_wReads (diag : Diag) (level : BitVec 2) (w : Walker) : (w.endFault diag level).wReads = w.wReads := rfl
@[simp] theorem endFault_tPte0 (diag : Diag) (level : BitVec 2) (w : Walker) : (w.endFault diag level).tPte0 = w.tPte0 := rfl
@[simp] theorem endFault_tPte1 (diag : Diag) (level : BitVec 2) (w : Walker) : (w.endFault diag level).tPte1 = w.tPte1 := rfl
@[simp] theorem endFault_tPte2 (diag : Diag) (level : BitVec 2) (w : Walker) : (w.endFault diag level).tPte2 = w.tPte2 := rfl
@[simp] theorem endFault_tValid (diag : Diag) (level : BitVec 2) (w : Walker) : (w.endFault diag level).tValid = w.tValid := rfl
@[simp] theorem endFault_rKind (diag : Diag) (level : BitVec 2) (w : Walker) : (w.endFault diag level).rKind = .fault := rfl
@[simp] theorem endFault_rPaddr (diag : Diag) (level : BitVec 2) (w : Walker) : (w.endFault diag level).rPaddr = 0 := rfl
@[simp] theorem endFault_rCause (diag : Diag) (level : BitVec 2) (w : Walker) :
    (w.endFault diag level).rCause = cause w.qPurpose := rfl
@[simp] theorem endFault_rDiag (diag : Diag) (level : BitVec 2) (w : Walker) : (w.endFault diag level).rDiag = diag := rfl
@[simp] theorem endFault_rLevel (diag : Diag) (level : BitVec 2) (w : Walker) : (w.endFault diag level).rLevel = level := rfl
@[simp] theorem endFault_rLeafPte (diag : Diag) (level : BitVec 2) (w : Walker) : (w.endFault diag level).rLeafPte = 0 := rfl
@[simp] theorem endFault_sFatalCfg (diag : Diag) (level : BitVec 2) (w : Walker) :
    (w.endFault diag level).sFatalCfg = w.sFatalCfg := rfl

/-! ## `Walker.endConfigError` -/

@[simp] theorem endConfigError_fsm (w : Walker) : (w.endConfigError).fsm = .resp := rfl
@[simp] theorem endConfigError_qPurpose (w : Walker) : (w.endConfigError).qPurpose = w.qPurpose := rfl
@[simp] theorem endConfigError_qPriv (w : Walker) : (w.endConfigError).qPriv = w.qPriv := rfl
@[simp] theorem endConfigError_qVaddr (w : Walker) : (w.endConfigError).qVaddr = w.qVaddr := rfl
@[simp] theorem endConfigError_cIsa (w : Walker) : (w.endConfigError).cIsa = w.cIsa := rfl
@[simp] theorem endConfigError_cMode (w : Walker) : (w.endConfigError).cMode = w.cMode := rfl
@[simp] theorem endConfigError_cRoot (w : Walker) : (w.endConfigError).cRoot = w.cRoot := rfl
@[simp] theorem endConfigError_cSum (w : Walker) : (w.endConfigError).cSum = w.cSum := rfl
@[simp] theorem endConfigError_cMxr (w : Walker) : (w.endConfigError).cMxr = w.cMxr := rfl
@[simp] theorem endConfigError_wLevel (w : Walker) : (w.endConfigError).wLevel = w.wLevel := rfl
@[simp] theorem endConfigError_wFrame (w : Walker) : (w.endConfigError).wFrame = w.wFrame := rfl
@[simp] theorem endConfigError_wReads (w : Walker) : (w.endConfigError).wReads = w.wReads := rfl
@[simp] theorem endConfigError_tPte0 (w : Walker) : (w.endConfigError).tPte0 = w.tPte0 := rfl
@[simp] theorem endConfigError_tPte1 (w : Walker) : (w.endConfigError).tPte1 = w.tPte1 := rfl
@[simp] theorem endConfigError_tPte2 (w : Walker) : (w.endConfigError).tPte2 = w.tPte2 := rfl
@[simp] theorem endConfigError_tValid (w : Walker) : (w.endConfigError).tValid = w.tValid := rfl
@[simp] theorem endConfigError_rKind (w : Walker) : (w.endConfigError).rKind = .configError := rfl
@[simp] theorem endConfigError_rPaddr (w : Walker) : (w.endConfigError).rPaddr = 0 := rfl
@[simp] theorem endConfigError_rCause (w : Walker) : (w.endConfigError).rCause = 0 := rfl
@[simp] theorem endConfigError_rDiag (w : Walker) : (w.endConfigError).rDiag = .unsupportedMode := rfl
@[simp] theorem endConfigError_rLevel (w : Walker) : (w.endConfigError).rLevel = 0 := rfl
@[simp] theorem endConfigError_rLeafPte (w : Walker) : (w.endConfigError).rLeafPte = 0 := rfl
@[simp] theorem endConfigError_sFatalCfg (w : Walker) : (w.endConfigError).sFatalCfg = true := rfl

/-! ## `Walker.deliver` -/

@[simp] theorem deliver_fsm (w : Walker) : (w.deliver).fsm = .idle := rfl
@[simp] theorem deliver_qPurpose (w : Walker) : (w.deliver).qPurpose = w.qPurpose := rfl
@[simp] theorem deliver_qPriv (w : Walker) : (w.deliver).qPriv = w.qPriv := rfl
@[simp] theorem deliver_qVaddr (w : Walker) : (w.deliver).qVaddr = w.qVaddr := rfl
@[simp] theorem deliver_cIsa (w : Walker) : (w.deliver).cIsa = w.cIsa := rfl
@[simp] theorem deliver_cMode (w : Walker) : (w.deliver).cMode = w.cMode := rfl
@[simp] theorem deliver_cRoot (w : Walker) : (w.deliver).cRoot = w.cRoot := rfl
@[simp] theorem deliver_cSum (w : Walker) : (w.deliver).cSum = w.cSum := rfl
@[simp] theorem deliver_cMxr (w : Walker) : (w.deliver).cMxr = w.cMxr := rfl
@[simp] theorem deliver_wLevel (w : Walker) : (w.deliver).wLevel = w.wLevel := rfl
@[simp] theorem deliver_wFrame (w : Walker) : (w.deliver).wFrame = w.wFrame := rfl
@[simp] theorem deliver_wReads (w : Walker) : (w.deliver).wReads = w.wReads := rfl
@[simp] theorem deliver_tPte0 (w : Walker) : (w.deliver).tPte0 = w.tPte0 := rfl
@[simp] theorem deliver_tPte1 (w : Walker) : (w.deliver).tPte1 = w.tPte1 := rfl
@[simp] theorem deliver_tPte2 (w : Walker) : (w.deliver).tPte2 = w.tPte2 := rfl
@[simp] theorem deliver_tValid (w : Walker) : (w.deliver).tValid = w.tValid := rfl
@[simp] theorem deliver_rKind (w : Walker) : (w.deliver).rKind = w.rKind := rfl
@[simp] theorem deliver_rPaddr (w : Walker) : (w.deliver).rPaddr = w.rPaddr := rfl
@[simp] theorem deliver_rCause (w : Walker) : (w.deliver).rCause = w.rCause := rfl
@[simp] theorem deliver_rDiag (w : Walker) : (w.deliver).rDiag = w.rDiag := rfl
@[simp] theorem deliver_rLevel (w : Walker) : (w.deliver).rLevel = w.rLevel := rfl
@[simp] theorem deliver_rLeafPte (w : Walker) : (w.deliver).rLeafPte = w.rLeafPte := rfl
@[simp] theorem deliver_sFatalCfg (w : Walker) : (w.deliver).sFatalCfg = w.sFatalCfg := rfl

/-! ## `Walker.latchRequest` -/

@[simp] theorem latchRequest_fsm (purpose : Purpose) (priv : Priv) (vaddr : Word64) (isa : Isa) (sum mxr : Bool) (w : Walker) :
    (w.latchRequest purpose priv vaddr isa sum mxr).fsm = w.fsm := rfl
@[simp] theorem latchRequest_qPurpose (purpose : Purpose) (priv : Priv) (vaddr : Word64) (isa : Isa) (sum mxr : Bool) (w : Walker) :
    (w.latchRequest purpose priv vaddr isa sum mxr).qPurpose = purpose := rfl
@[simp] theorem latchRequest_qPriv (purpose : Purpose) (priv : Priv) (vaddr : Word64) (isa : Isa) (sum mxr : Bool) (w : Walker) :
    (w.latchRequest purpose priv vaddr isa sum mxr).qPriv = priv := rfl
@[simp] theorem latchRequest_qVaddr (purpose : Purpose) (priv : Priv) (vaddr : Word64) (isa : Isa) (sum mxr : Bool) (w : Walker) :
    (w.latchRequest purpose priv vaddr isa sum mxr).qVaddr = vaddr := rfl
@[simp] theorem latchRequest_cIsa (purpose : Purpose) (priv : Priv) (vaddr : Word64) (isa : Isa) (sum mxr : Bool) (w : Walker) :
    (w.latchRequest purpose priv vaddr isa sum mxr).cIsa = isa := rfl
@[simp] theorem latchRequest_cMode (purpose : Purpose) (priv : Priv) (vaddr : Word64) (isa : Isa) (sum mxr : Bool) (w : Walker) :
    (w.latchRequest purpose priv vaddr isa sum mxr).cMode = w.cMode := rfl
@[simp] theorem latchRequest_cRoot (purpose : Purpose) (priv : Priv) (vaddr : Word64) (isa : Isa) (sum mxr : Bool) (w : Walker) :
    (w.latchRequest purpose priv vaddr isa sum mxr).cRoot = w.cRoot := rfl
@[simp] theorem latchRequest_cSum (purpose : Purpose) (priv : Priv) (vaddr : Word64) (isa : Isa) (sum mxr : Bool) (w : Walker) :
    (w.latchRequest purpose priv vaddr isa sum mxr).cSum = sum := rfl
@[simp] theorem latchRequest_cMxr (purpose : Purpose) (priv : Priv) (vaddr : Word64) (isa : Isa) (sum mxr : Bool) (w : Walker) :
    (w.latchRequest purpose priv vaddr isa sum mxr).cMxr = mxr := rfl
@[simp] theorem latchRequest_wLevel (purpose : Purpose) (priv : Priv) (vaddr : Word64) (isa : Isa) (sum mxr : Bool) (w : Walker) :
    (w.latchRequest purpose priv vaddr isa sum mxr).wLevel = w.wLevel := rfl
@[simp] theorem latchRequest_wFrame (purpose : Purpose) (priv : Priv) (vaddr : Word64) (isa : Isa) (sum mxr : Bool) (w : Walker) :
    (w.latchRequest purpose priv vaddr isa sum mxr).wFrame = w.wFrame := rfl
@[simp] theorem latchRequest_wReads (purpose : Purpose) (priv : Priv) (vaddr : Word64) (isa : Isa) (sum mxr : Bool) (w : Walker) :
    (w.latchRequest purpose priv vaddr isa sum mxr).wReads = 0 := rfl
@[simp] theorem latchRequest_tPte0 (purpose : Purpose) (priv : Priv) (vaddr : Word64) (isa : Isa) (sum mxr : Bool) (w : Walker) :
    (w.latchRequest purpose priv vaddr isa sum mxr).tPte0 = 0 := rfl
@[simp] theorem latchRequest_tPte1 (purpose : Purpose) (priv : Priv) (vaddr : Word64) (isa : Isa) (sum mxr : Bool) (w : Walker) :
    (w.latchRequest purpose priv vaddr isa sum mxr).tPte1 = 0 := rfl
@[simp] theorem latchRequest_tPte2 (purpose : Purpose) (priv : Priv) (vaddr : Word64) (isa : Isa) (sum mxr : Bool) (w : Walker) :
    (w.latchRequest purpose priv vaddr isa sum mxr).tPte2 = 0 := rfl
@[simp] theorem latchRequest_tValid (purpose : Purpose) (priv : Priv) (vaddr : Word64) (isa : Isa) (sum mxr : Bool) (w : Walker) :
    (w.latchRequest purpose priv vaddr isa sum mxr).tValid = 0 := rfl
@[simp] theorem latchRequest_rKind (purpose : Purpose) (priv : Priv) (vaddr : Word64) (isa : Isa) (sum mxr : Bool) (w : Walker) :
    (w.latchRequest purpose priv vaddr isa sum mxr).rKind = w.rKind := rfl
@[simp] theorem latchRequest_rPaddr (purpose : Purpose) (priv : Priv) (vaddr : Word64) (isa : Isa) (sum mxr : Bool) (w : Walker) :
    (w.latchRequest purpose priv vaddr isa sum mxr).rPaddr = w.rPaddr := rfl
@[simp] theorem latchRequest_rCause (purpose : Purpose) (priv : Priv) (vaddr : Word64) (isa : Isa) (sum mxr : Bool) (w : Walker) :
    (w.latchRequest purpose priv vaddr isa sum mxr).rCause = w.rCause := rfl
@[simp] theorem latchRequest_rDiag (purpose : Purpose) (priv : Priv) (vaddr : Word64) (isa : Isa) (sum mxr : Bool) (w : Walker) :
    (w.latchRequest purpose priv vaddr isa sum mxr).rDiag = w.rDiag := rfl
@[simp] theorem latchRequest_rLevel (purpose : Purpose) (priv : Priv) (vaddr : Word64) (isa : Isa) (sum mxr : Bool) (w : Walker) :
    (w.latchRequest purpose priv vaddr isa sum mxr).rLevel = w.rLevel := rfl
@[simp] theorem latchRequest_rLeafPte (purpose : Purpose) (priv : Priv) (vaddr : Word64) (isa : Isa) (sum mxr : Bool) (w : Walker) :
    (w.latchRequest purpose priv vaddr isa sum mxr).rLeafPte = w.rLeafPte := rfl
@[simp] theorem latchRequest_sFatalCfg (purpose : Purpose) (priv : Priv) (vaddr : Word64) (isa : Isa) (sum mxr : Bool) (w : Walker) :
    (w.latchRequest purpose priv vaddr isa sum mxr).sFatalCfg = w.sFatalCfg := rfl

/-! ## `Walker.latchConfig` -/

@[simp] theorem latchConfig_fsm (mode : Mode) (root : Frame) (w : Walker) : (w.latchConfig mode root).fsm = w.fsm := rfl
@[simp] theorem latchConfig_qPurpose (mode : Mode) (root : Frame) (w : Walker) :
    (w.latchConfig mode root).qPurpose = w.qPurpose := rfl
@[simp] theorem latchConfig_qPriv (mode : Mode) (root : Frame) (w : Walker) : (w.latchConfig mode root).qPriv = w.qPriv := rfl
@[simp] theorem latchConfig_qVaddr (mode : Mode) (root : Frame) (w : Walker) : (w.latchConfig mode root).qVaddr = w.qVaddr := rfl
@[simp] theorem latchConfig_cIsa (mode : Mode) (root : Frame) (w : Walker) : (w.latchConfig mode root).cIsa = w.cIsa := rfl
@[simp] theorem latchConfig_cMode (mode : Mode) (root : Frame) (w : Walker) : (w.latchConfig mode root).cMode = mode := rfl
@[simp] theorem latchConfig_cRoot (mode : Mode) (root : Frame) (w : Walker) : (w.latchConfig mode root).cRoot = root := rfl
@[simp] theorem latchConfig_cSum (mode : Mode) (root : Frame) (w : Walker) : (w.latchConfig mode root).cSum = w.cSum := rfl
@[simp] theorem latchConfig_cMxr (mode : Mode) (root : Frame) (w : Walker) : (w.latchConfig mode root).cMxr = w.cMxr := rfl
@[simp] theorem latchConfig_wLevel (mode : Mode) (root : Frame) (w : Walker) : (w.latchConfig mode root).wLevel = w.wLevel := rfl
@[simp] theorem latchConfig_wFrame (mode : Mode) (root : Frame) (w : Walker) : (w.latchConfig mode root).wFrame = w.wFrame := rfl
@[simp] theorem latchConfig_wReads (mode : Mode) (root : Frame) (w : Walker) : (w.latchConfig mode root).wReads = w.wReads := rfl
@[simp] theorem latchConfig_tPte0 (mode : Mode) (root : Frame) (w : Walker) : (w.latchConfig mode root).tPte0 = w.tPte0 := rfl
@[simp] theorem latchConfig_tPte1 (mode : Mode) (root : Frame) (w : Walker) : (w.latchConfig mode root).tPte1 = w.tPte1 := rfl
@[simp] theorem latchConfig_tPte2 (mode : Mode) (root : Frame) (w : Walker) : (w.latchConfig mode root).tPte2 = w.tPte2 := rfl
@[simp] theorem latchConfig_tValid (mode : Mode) (root : Frame) (w : Walker) : (w.latchConfig mode root).tValid = w.tValid := rfl
@[simp] theorem latchConfig_rKind (mode : Mode) (root : Frame) (w : Walker) : (w.latchConfig mode root).rKind = w.rKind := rfl
@[simp] theorem latchConfig_rPaddr (mode : Mode) (root : Frame) (w : Walker) : (w.latchConfig mode root).rPaddr = w.rPaddr := rfl
@[simp] theorem latchConfig_rCause (mode : Mode) (root : Frame) (w : Walker) : (w.latchConfig mode root).rCause = w.rCause := rfl
@[simp] theorem latchConfig_rDiag (mode : Mode) (root : Frame) (w : Walker) : (w.latchConfig mode root).rDiag = w.rDiag := rfl
@[simp] theorem latchConfig_rLevel (mode : Mode) (root : Frame) (w : Walker) : (w.latchConfig mode root).rLevel = w.rLevel := rfl
@[simp] theorem latchConfig_rLeafPte (mode : Mode) (root : Frame) (w : Walker) :
    (w.latchConfig mode root).rLeafPte = w.rLeafPte := rfl
@[simp] theorem latchConfig_sFatalCfg (mode : Mode) (root : Frame) (w : Walker) :
    (w.latchConfig mode root).sFatalCfg = w.sFatalCfg := rfl

/-! ## `Walker.startWalk` -/

@[simp] theorem startWalk_fsm (w : Walker) : (w.startWalk).fsm = .issue := rfl
@[simp] theorem startWalk_qPurpose (w : Walker) : (w.startWalk).qPurpose = w.qPurpose := rfl
@[simp] theorem startWalk_qPriv (w : Walker) : (w.startWalk).qPriv = w.qPriv := rfl
@[simp] theorem startWalk_qVaddr (w : Walker) : (w.startWalk).qVaddr = w.qVaddr := rfl
@[simp] theorem startWalk_cIsa (w : Walker) : (w.startWalk).cIsa = w.cIsa := rfl
@[simp] theorem startWalk_cMode (w : Walker) : (w.startWalk).cMode = w.cMode := rfl
@[simp] theorem startWalk_cRoot (w : Walker) : (w.startWalk).cRoot = w.cRoot := rfl
@[simp] theorem startWalk_cSum (w : Walker) : (w.startWalk).cSum = w.cSum := rfl
@[simp] theorem startWalk_cMxr (w : Walker) : (w.startWalk).cMxr = w.cMxr := rfl
@[simp] theorem startWalk_wLevel (w : Walker) : (w.startWalk).wLevel = topLevel w.cIsa := rfl
@[simp] theorem startWalk_wFrame (w : Walker) : (w.startWalk).wFrame = w.cRoot := rfl
@[simp] theorem startWalk_wReads (w : Walker) : (w.startWalk).wReads = w.wReads := rfl
@[simp] theorem startWalk_tPte0 (w : Walker) : (w.startWalk).tPte0 = w.tPte0 := rfl
@[simp] theorem startWalk_tPte1 (w : Walker) : (w.startWalk).tPte1 = w.tPte1 := rfl
@[simp] theorem startWalk_tPte2 (w : Walker) : (w.startWalk).tPte2 = w.tPte2 := rfl
@[simp] theorem startWalk_tValid (w : Walker) : (w.startWalk).tValid = w.tValid := rfl
@[simp] theorem startWalk_rKind (w : Walker) : (w.startWalk).rKind = w.rKind := rfl
@[simp] theorem startWalk_rPaddr (w : Walker) : (w.startWalk).rPaddr = w.rPaddr := rfl
@[simp] theorem startWalk_rCause (w : Walker) : (w.startWalk).rCause = w.rCause := rfl
@[simp] theorem startWalk_rDiag (w : Walker) : (w.startWalk).rDiag = w.rDiag := rfl
@[simp] theorem startWalk_rLevel (w : Walker) : (w.startWalk).rLevel = w.rLevel := rfl
@[simp] theorem startWalk_rLeafPte (w : Walker) : (w.startWalk).rLeafPte = w.rLeafPte := rfl
@[simp] theorem startWalk_sFatalCfg (w : Walker) : (w.startWalk).sFatalCfg = w.sFatalCfg := rfl

/-! ## `Walker.recordPte` -/

@[simp] theorem recordPte_fsm (pte : Word64) (w : Walker) : (w.recordPte pte).fsm = w.fsm := rfl
@[simp] theorem recordPte_qPurpose (pte : Word64) (w : Walker) : (w.recordPte pte).qPurpose = w.qPurpose := rfl
@[simp] theorem recordPte_qPriv (pte : Word64) (w : Walker) : (w.recordPte pte).qPriv = w.qPriv := rfl
@[simp] theorem recordPte_qVaddr (pte : Word64) (w : Walker) : (w.recordPte pte).qVaddr = w.qVaddr := rfl
@[simp] theorem recordPte_cIsa (pte : Word64) (w : Walker) : (w.recordPte pte).cIsa = w.cIsa := rfl
@[simp] theorem recordPte_cMode (pte : Word64) (w : Walker) : (w.recordPte pte).cMode = w.cMode := rfl
@[simp] theorem recordPte_cRoot (pte : Word64) (w : Walker) : (w.recordPte pte).cRoot = w.cRoot := rfl
@[simp] theorem recordPte_cSum (pte : Word64) (w : Walker) : (w.recordPte pte).cSum = w.cSum := rfl
@[simp] theorem recordPte_cMxr (pte : Word64) (w : Walker) : (w.recordPte pte).cMxr = w.cMxr := rfl
@[simp] theorem recordPte_wLevel (pte : Word64) (w : Walker) : (w.recordPte pte).wLevel = w.wLevel := rfl
@[simp] theorem recordPte_wFrame (pte : Word64) (w : Walker) : (w.recordPte pte).wFrame = w.wFrame := rfl
@[simp] theorem recordPte_wReads (pte : Word64) (w : Walker) : (w.recordPte pte).wReads = w.wReads + 1 := rfl
@[simp] theorem recordPte_tPte0 (pte : Word64) (w : Walker) :
    (w.recordPte pte).tPte0 = if w.wLevel = 0 then pte else w.tPte0 := rfl
@[simp] theorem recordPte_tPte1 (pte : Word64) (w : Walker) :
    (w.recordPte pte).tPte1 = if w.wLevel = 1 then pte else w.tPte1 := rfl
@[simp] theorem recordPte_tPte2 (pte : Word64) (w : Walker) :
    (w.recordPte pte).tPte2 = if w.wLevel = 2 then pte else w.tPte2 := rfl
@[simp] theorem recordPte_tValid (pte : Word64) (w : Walker) :
    (w.recordPte pte).tValid = w.tValid ||| (1#3 <<< w.wLevel.toNat) := rfl
@[simp] theorem recordPte_rKind (pte : Word64) (w : Walker) : (w.recordPte pte).rKind = w.rKind := rfl
@[simp] theorem recordPte_rPaddr (pte : Word64) (w : Walker) : (w.recordPte pte).rPaddr = w.rPaddr := rfl
@[simp] theorem recordPte_rCause (pte : Word64) (w : Walker) : (w.recordPte pte).rCause = w.rCause := rfl
@[simp] theorem recordPte_rDiag (pte : Word64) (w : Walker) : (w.recordPte pte).rDiag = w.rDiag := rfl
@[simp] theorem recordPte_rLevel (pte : Word64) (w : Walker) : (w.recordPte pte).rLevel = w.rLevel := rfl
@[simp] theorem recordPte_rLeafPte (pte : Word64) (w : Walker) : (w.recordPte pte).rLeafPte = w.rLeafPte := rfl
@[simp] theorem recordPte_sFatalCfg (pte : Word64) (w : Walker) : (w.recordPte pte).sFatalCfg = w.sFatalCfg := rfl

/-! ## `Walker.descend` -/

@[simp] theorem descend_fsm (pte : Word64) (w : Walker) : (w.descend pte).fsm = .issue := rfl
@[simp] theorem descend_qPurpose (pte : Word64) (w : Walker) : (w.descend pte).qPurpose = w.qPurpose := rfl
@[simp] theorem descend_qPriv (pte : Word64) (w : Walker) : (w.descend pte).qPriv = w.qPriv := rfl
@[simp] theorem descend_qVaddr (pte : Word64) (w : Walker) : (w.descend pte).qVaddr = w.qVaddr := rfl
@[simp] theorem descend_cIsa (pte : Word64) (w : Walker) : (w.descend pte).cIsa = w.cIsa := rfl
@[simp] theorem descend_cMode (pte : Word64) (w : Walker) : (w.descend pte).cMode = w.cMode := rfl
@[simp] theorem descend_cRoot (pte : Word64) (w : Walker) : (w.descend pte).cRoot = w.cRoot := rfl
@[simp] theorem descend_cSum (pte : Word64) (w : Walker) : (w.descend pte).cSum = w.cSum := rfl
@[simp] theorem descend_cMxr (pte : Word64) (w : Walker) : (w.descend pte).cMxr = w.cMxr := rfl
@[simp] theorem descend_wLevel (pte : Word64) (w : Walker) : (w.descend pte).wLevel = w.wLevel - 1 := rfl
@[simp] theorem descend_wFrame (pte : Word64) (w : Walker) : (w.descend pte).wFrame = ptePpn w.cIsa pte := rfl
@[simp] theorem descend_wReads (pte : Word64) (w : Walker) : (w.descend pte).wReads = w.wReads := rfl
@[simp] theorem descend_tPte0 (pte : Word64) (w : Walker) : (w.descend pte).tPte0 = w.tPte0 := rfl
@[simp] theorem descend_tPte1 (pte : Word64) (w : Walker) : (w.descend pte).tPte1 = w.tPte1 := rfl
@[simp] theorem descend_tPte2 (pte : Word64) (w : Walker) : (w.descend pte).tPte2 = w.tPte2 := rfl
@[simp] theorem descend_tValid (pte : Word64) (w : Walker) : (w.descend pte).tValid = w.tValid := rfl
@[simp] theorem descend_rKind (pte : Word64) (w : Walker) : (w.descend pte).rKind = w.rKind := rfl
@[simp] theorem descend_rPaddr (pte : Word64) (w : Walker) : (w.descend pte).rPaddr = w.rPaddr := rfl
@[simp] theorem descend_rCause (pte : Word64) (w : Walker) : (w.descend pte).rCause = w.rCause := rfl
@[simp] theorem descend_rDiag (pte : Word64) (w : Walker) : (w.descend pte).rDiag = w.rDiag := rfl
@[simp] theorem descend_rLevel (pte : Word64) (w : Walker) : (w.descend pte).rLevel = w.rLevel := rfl
@[simp] theorem descend_rLeafPte (pte : Word64) (w : Walker) : (w.descend pte).rLeafPte = w.rLeafPte := rfl
@[simp] theorem descend_sFatalCfg (pte : Word64) (w : Walker) : (w.descend pte).sFatalCfg = w.sFatalCfg := rfl

end Sys2Proof.Machine
end

