-- ==== Sys2Proof/Laws/Memory.lean ====
section
/-! SUPPORT. The image behind the Memory Reader: reading after storing, and the canonical form, which every store keeps. -/

namespace Sys2Proof.Machine

/-- A stored byte reads back, and every other address reads as before. -/
theorem readByte_storeByte (m : Memory) (a : Nat) (b : Byte) (a' : Nat) (h : m.Pairwise (fun x y => x.1 < y.1)) :
    readByte (storeByte m a b) a' = if a = a' then some b else readByte m a' := by
  induction m with
  | nil => simp [storeByte, readByte]
  | cons c m ih =>
    obtain ⟨k, c⟩ := c
    have hm := ih (List.Pairwise.of_cons h)
    unfold storeByte
    split
    · simp [readByte]
    · split
      · subst_vars; simp only [readByte]; split <;> rfl
      · simp only [readByte, hm]
        by_cases hk : k = a' <;> grind

/-- The addresses that a store can add. -/
theorem mem_storeByte (m : Memory) (a : Nat) (b : Byte) (c : Host.Cell) (h : c ∈ storeByte m a b) : c.1 = a ∨ c ∈ m := by
  induction m with
  | nil => simp [storeByte] at h; simp [h]
  | cons d m ih =>
    unfold storeByte at h
    grind

/-- A store inside the 64-bit physical space keeps the canonical form. -/
theorem storeByte_wf (m : Memory) (a : Nat) (b : Byte) (ha : a < 2 ^ 64) (h : Memory.wf m) : Memory.wf (storeByte m a b) := by
  refine ⟨?_, fun c hc => (mem_storeByte m a b c hc).elim (fun e => e ▸ ha) (h.2 c)⟩
  have hp := h.1
  clear h
  induction m with
  | nil => simp [storeByte]
  | cons d m ih =>
    have hd := List.pairwise_cons.1 hp
    unfold storeByte
    split
    · rename_i hlt
      refine List.pairwise_cons.2 ⟨fun x hx => ?_, hp⟩
      rcases List.mem_cons.1 hx with rfl | hx
      · exact hlt
      · exact lt_trans hlt (hd.1 x hx)
    · split
      · rename_i _ he
        exact List.pairwise_cons.2 ⟨fun x hx => he ▸ hd.1 x hx, hd.2⟩
      · refine List.pairwise_cons.2 ⟨fun x hx => ?_, ih hd.2⟩
        rcases mem_storeByte _ _ _ _ hx with e | hx
        · have : x.1 = a := e
          simp only [this]; omega
        · exact hd.1 x hx

/-- The stores of one step keep the canonical form. -/
theorem storeBytes_wf (m : Memory) (stores : List (Word64 × Byte)) (h : Memory.wf m) : Memory.wf (storeBytes m stores) := by
  unfold storeBytes
  induction stores generalizing m with
  | nil => exact h
  | cons c stores ih => exact ih _ (storeByte_wf m c.1.toNat c.2 c.1.isLt h)

/-- A step without stores leaves the image as it is. -/
@[simp] theorem storeBytes_nil (m : Memory) : storeBytes m [] = m := rfl

/-- The stores of a step land one after the other. -/
@[simp] theorem storeBytes_append (m : Memory) (l r : List (Word64 × Byte)) :
    storeBytes m (l ++ r) = storeBytes (storeBytes m l) r := List.foldl_append

/-- A store is the storing of its byte at its address. -/
@[simp] theorem storeBytes_singleton (m : Memory) (c : Word64 × Byte) : storeBytes m [c] = storeByte m c.1.toNat c.2 := rfl

/-- The image after reset has the canonical form. -/
theorem reset_mem_wf : Memory.wf State.reset.mem := by decide

end Sys2Proof.Machine
end

