-- ==== Sys2Proof/Laws/Ops.lean ====
section
/-! SUPPORT. What each shared operation can do, said once: its next states with the conditions, and its stops. -/

namespace Sys2Proof.Machine

/-- A presented request answers a next state in these cases only (R165, R21). -/
theorem acceptRequest_next {purpose : Purpose} {priv : Priv} {vaddr : Word64} {s t : State}
    (h : acceptRequest purpose priv vaddr s = .next t) :
    (s.w.fsm ≠ .idle ∧ t = s) ∨
    (s.w.fsm = .idle ∧ (s.inp.cfgIsa = .rv32 → vaddr.extractLsb' 32 32 = 0) ∧ (priv = .rsvd → s.rsvdPriv = .identity) ∧
      t = s.onWalker fun w =>
        (w.latchRequest purpose priv vaddr s.inp.cfgIsa s.inp.cfgSum s.inp.cfgMxr).refreshAndDispatch
          (refreshConfig s.inp.cfgIsa s.inp.cfgSatp)) := by
  unfold acceptRequest at h
  split at h
  · rename_i hb; exact .inl ⟨hb, by simpa using h.symm⟩
  · rename_i hi
    split at h
    · simp at h
    · rename_i hv
      split at h
      · simp at h
      · rename_i hr
        refine .inr ⟨by simpa using hi, fun e => by simpa [e] using hv, fun e => ?_, by simpa using h.symm⟩
        cases hp : s.rsvdPriv
        · rfl
        · exact absurd ⟨e, hp⟩ hr

/-- A presented request inside the contract is accepted by an idle walker (R165). -/
theorem acceptRequest_idle {purpose : Purpose} {priv : Priv} {vaddr : Word64} {s : State} (hf : s.w.fsm = .idle)
    (hv : s.inp.cfgIsa = .rv32 → vaddr.extractLsb' 32 32 = 0) (hr : priv = .rsvd → s.rsvdPriv = .identity) :
    acceptRequest purpose priv vaddr s = .next (s.onWalker fun w =>
      (w.latchRequest purpose priv vaddr s.inp.cfgIsa s.inp.cfgSum s.inp.cfgMxr).refreshAndDispatch
        (refreshConfig s.inp.cfgIsa s.inp.cfgSatp)) := by
  unfold acceptRequest
  rw [if_neg (by simp [hf]), if_neg (fun h => h.2 (hv h.1)), if_neg (fun h => by simp [hr h.1] at h)]

/-- A received PTE word answers a next state in this case only (R168). -/
theorem receivePte_next {data : Word64} {act : Word64 → Walker → Walker} {s t : State}
    (h : receivePte data act s = .next t) :
    s.w.fsm = .wait ∧ s.w.wLevel.toNat < levels s.w.cIsa ∧
      t = s.onWalker fun w => act (pteWord w.cIsa data) (w.recordPte (pteWord w.cIsa data)) := by
  unfold receivePte at h
  split at h
  · simp at h
  · rename_i hw
    split at h
    · simp at h
    · exact ⟨by simpa using hw, by omega, by simpa using h.symm⟩

/-- A PTE word received by a waiting walker at a level of its ISA width (R168). -/
theorem receivePte_wait {data : Word64} {act : Word64 → Walker → Walker} {s : State} (hf : s.w.fsm = .wait)
    (hl : s.w.wLevel.toNat < levels s.w.cIsa) :
    receivePte data act s = .next (s.onWalker fun w => act (pteWord w.cIsa data) (w.recordPte (pteWord w.cIsa data))) := by
  unfold receivePte
  rw [if_neg (by simp [hf]), if_neg (by omega)]

/-- The issue step answers a next state in this case only (R167). -/
theorem issueStep_next {s t : State} (h : issueStep s = .next t) :
    s.w.wLevel.toNat < levels s.w.cIsa ∧
      t = { s with
        w := { s.w with fsm := .wait }
        hist := ⟨s.w.readAddr, ptesize s.w.cIsa, s.w.wLevel⟩ :: s.hist } := by
  unfold issueStep at h
  split at h
  · simp at h
  · exact ⟨by omega, by simpa using h.symm⟩

/-- A next state through `thenTick` is the tick of a next state. -/
theorem thenTick_eq_next {r : Result} {t : State} (h : thenTick r = .next t) : ∃ u, r = .next u ∧ t = tick u := by
  cases r with
  | next u => exact ⟨u, rfl, by simpa using h.symm⟩
  | fault f => simp at h
  | refused r => simp at h

/-- A step that answers a next state takes one of the actions of 43_walk.md section 2, and then the inputs pass. -/
theorem step_next {s t : State} (h : step s = .next t) :
    (action s = .reset ∧ t = tick (resetStep s)) ∨ (action s = .hold ∧ t = tick s) ∨
    (∃ i u, action s = .run i ∧ exec i s = .next u ∧ t = tick u) ∨
    (∃ u, action s = .issue ∧ issueStep s = .next u ∧ t = tick u) ∨
    (action s = .readError ∧ t = tick (readErrorStep s)) ∨ (action s = .deliver ∧ t = tick (deliverStep s)) := by
  unfold step at h
  split at h
  · exact .inl ⟨by assumption, by simpa using h.symm⟩
  · simp at h
  · exact .inr (.inl ⟨by assumption, by simpa using h.symm⟩)
  · rename_i i ha
    obtain ⟨u, hu, rfl⟩ := thenTick_eq_next h
    exact .inr (.inr (.inl ⟨i, u, ha, hu, rfl⟩))
  · rename_i ha
    obtain ⟨u, hu, rfl⟩ := thenTick_eq_next h
    exact .inr (.inr (.inr (.inl ⟨u, ha, hu, rfl⟩)))
  · exact .inr (.inr (.inr (.inr (.inl ⟨by assumption, by simpa using h.symm⟩))))
  · exact .inr (.inr (.inr (.inr (.inr ⟨by assumption, by simpa using h.symm⟩))))

/-- What an action says of the state and its inputs. -/
theorem action_cases (s : State) :
    (s.inp.rst = true ∧ action s = .reset) ∨
    (s.inp.rst = false ∧ s.inp.memRespValid = true ∧ s.w.fsm ≠ .wait ∧ action s = .refuse .memResponseOutsideWait) ∨
    (s.inp.rst = false ∧ s.inp.memRespValid = false ∧ s.w.fsm = .idle ∧
      action s = if s.inp.reqValid then .run (decode s.inp.requestWord) else .hold) ∨
    (s.inp.rst = false ∧ s.inp.memRespValid = false ∧ s.w.fsm = .issue ∧
      action s = if s.inp.memReqReady then .issue else .hold) ∨
    (s.inp.rst = false ∧ s.inp.memRespValid = false ∧ s.w.fsm = .wait ∧ action s = .hold) ∨
    (s.inp.rst = false ∧ s.inp.memRespValid = true ∧ s.w.fsm = .wait ∧
      ((readerAnswer s = none ∧ action s = .readError) ∨
        ∃ data, readerAnswer s = some data ∧ action s = .run (decode (.pte data)))) ∨
    (s.inp.rst = false ∧ s.inp.memRespValid = false ∧ s.w.fsm = .resp ∧
      action s = if s.inp.rspReady then .deliver else .hold) := by
  unfold action
  cases s.inp.rst <;> cases s.inp.memRespValid <;> cases hf : s.w.fsm <;> cases hr : readerAnswer s <;> simp

/-- The two fields of a command word (R88). -/
theorem command_fields : ∀ priv purpose : BitVec 2,
    BitVec.extractLsb' 0 2 (priv ++ purpose : BitVec 4) = purpose ∧ BitVec.extractLsb' 2 2 (priv ++ purpose : BitVec 4) = priv := by
  decide

/-- The instruction of a request word, by its purpose code (R88). -/
theorem decode_requestWord (inp : Inputs) :
    decode inp.requestWord = requestInstr (Purpose.ofCode inp.reqPurpose) (Priv.ofCode inp.reqPriv) inp.reqVaddr := by
  simp only [decode, decodeReq, Inputs.requestWord, command_fields]

/-- Every purpose runs the accept step (R144 to R147). -/
theorem exec_requestInstr (purpose : Purpose) (priv : Priv) (vaddr : Word64) (s : State) :
    exec (requestInstr purpose priv vaddr) s = acceptRequest purpose priv vaddr s := by
  cases purpose <;> rfl

end Sys2Proof.Machine
end

