-- ==== Sys2Proof/Laws/PerInstr.lean ====
section
/-! SUPPORT. The family `RowMatch`: the encoding of a well-formed instruction has the format of its opcode-table row and the values
of the bits the row's mask fixes. One lemma per constructor. -/

namespace Sys2Proof.Laws

/-- The encoded word is one that the instruction's own row of opcode_table.json admits. -/
def RowMatch.Statement (i : Instr) : Prop := i.wf = true → i.row.admits (encode i) = true

/-- The bits of the mode mask of `SATP64`. -/
theorem root64_mask_bits : ∀ j : Fin 64, (0xF000000000000000#64).getLsbD j.val = decide (60 ≤ j.val) := by decide

/-- The bits of the mode mask of `SATP32`. -/
theorem root32_mask_bits : ∀ j : Fin 64, (0x80000000#64).getLsbD j.val = decide (j.val = 31) := by decide

/-- The mask of the mode field keeps the mode alone. -/
theorem root64_mode_bits (mode : BitVec 4) (ign : BitVec 16) (ppn : BitVec 44) :
    (mode ++ ign ++ ppn) &&& 0xF000000000000000#64 = mode ++ 0#60 := by
  apply BitVec.eq_of_getLsbD_eq
  intro i hi
  rw [BitVec.getLsbD_and, root64_mask_bits ⟨i, hi⟩]
  simp only [BitVec.getLsbD_append, BitVec.getLsbD_zero]
  grind

/-- The mask of the mode bit keeps the mode alone. -/
theorem root32_mode_bit (mode : BitVec 1) (ign : BitVec 9) (ppn : BitVec 22) :
    (mode ++ ign ++ ppn).setWidth 64 &&& 0x80000000#64 = (mode ++ 0#31).setWidth 64 := by
  apply BitVec.eq_of_getLsbD_eq
  intro i hi
  rw [BitVec.getLsbD_and, root32_mask_bits ⟨i, hi⟩]
  simp only [BitVec.getLsbD_setWidth, BitVec.getLsbD_append, BitVec.getLsbD_zero]
  have := BitVec.getLsbD_of_ge mode (i - 31)
  grind

/-- A mask of low bits keeps the low bits. -/
theorem low_mask (data : BitVec 64) (n : Nat) (mask : BitVec 64) (hm : mask.toNat = 2 ^ n - 1) :
    data &&& mask = (data.extractLsb' 0 n).setWidth 64 := by
  apply BitVec.eq_of_toNat_eq
  have hlt : data.toNat % 2 ^ n < 2 ^ 64 := lt_of_le_of_lt (Nat.mod_le _ _) data.isLt
  rw [BitVec.toNat_and, hm, Nat.and_two_pow_sub_one_eq_mod, BitVec.toNat_setWidth, BitVec.extractLsb'_toNat, Nat.shiftRight_zero,
    Nat.mod_eq_of_lt hlt]

theorem RowMatch.translateFetch (priv : Priv) (vaddr : Word64) : RowMatch.Statement (.translateFetch priv vaddr) := by
  intro _; cases priv <;> simp [TableRow.admits, PortWord.bits, encode, Instr.row, Priv.code]

theorem RowMatch.translateLoad (priv : Priv) (vaddr : Word64) : RowMatch.Statement (.translateLoad priv vaddr) := by
  intro _; cases priv <;> simp [TableRow.admits, PortWord.bits, encode, Instr.row, Priv.code]

theorem RowMatch.translateStoreamo (priv : Priv) (vaddr : Word64) : RowMatch.Statement (.translateStoreamo priv vaddr) := by
  intro _; cases priv <;> simp [TableRow.admits, PortWord.bits, encode, Instr.row, Priv.code]

theorem RowMatch.translateDeleg (priv : Priv) (vaddr : Word64) : RowMatch.Statement (.translateDeleg priv vaddr) := by
  intro _; cases priv <;> simp [TableRow.admits, PortWord.bits, encode, Instr.row, Priv.code]

theorem RowMatch.satp32Bare (ign : BitVec 9) (ppn : BitVec 22) : RowMatch.Statement (.satp32Bare ign ppn) := by
  intro _; simp [TableRow.admits, PortWord.bits, encode, Instr.row, root32_mode_bit]

theorem RowMatch.satp32Sv32 (ign : BitVec 9) (ppn : BitVec 22) : RowMatch.Statement (.satp32Sv32 ign ppn) := by
  intro _; simp [TableRow.admits, PortWord.bits, encode, Instr.row, root32_mode_bit]

theorem RowMatch.satp64Bare (ign : BitVec 16) (ppn : BitVec 44) : RowMatch.Statement (.satp64Bare ign ppn) := by
  intro _; simp [TableRow.admits, PortWord.bits, encode, encodeRoot64, Instr.row, root64_mode_bits]

theorem RowMatch.satp64Unsupported1 (ign : BitVec 16) (ppn : BitVec 44) : RowMatch.Statement (.satp64Unsupported1 ign ppn) := by
  intro _; simp [TableRow.admits, PortWord.bits, encode, encodeRoot64, Instr.row, root64_mode_bits]

theorem RowMatch.satp64Unsupported2 (ign : BitVec 16) (ppn : BitVec 44) : RowMatch.Statement (.satp64Unsupported2 ign ppn) := by
  intro _; simp [TableRow.admits, PortWord.bits, encode, encodeRoot64, Instr.row, root64_mode_bits]

theorem RowMatch.satp64Unsupported3 (ign : BitVec 16) (ppn : BitVec 44) : RowMatch.Statement (.satp64Unsupported3 ign ppn) := by
  intro _; simp [TableRow.admits, PortWord.bits, encode, encodeRoot64, Instr.row, root64_mode_bits]

theorem RowMatch.satp64Unsupported4 (ign : BitVec 16) (ppn : BitVec 44) : RowMatch.Statement (.satp64Unsupported4 ign ppn) := by
  intro _; simp [TableRow.admits, PortWord.bits, encode, encodeRoot64, Instr.row, root64_mode_bits]

theorem RowMatch.satp64Unsupported5 (ign : BitVec 16) (ppn : BitVec 44) : RowMatch.Statement (.satp64Unsupported5 ign ppn) := by
  intro _; simp [TableRow.admits, PortWord.bits, encode, encodeRoot64, Instr.row, root64_mode_bits]

theorem RowMatch.satp64Unsupported6 (ign : BitVec 16) (ppn : BitVec 44) : RowMatch.Statement (.satp64Unsupported6 ign ppn) := by
  intro _; simp [TableRow.admits, PortWord.bits, encode, encodeRoot64, Instr.row, root64_mode_bits]

theorem RowMatch.satp64Unsupported7 (ign : BitVec 16) (ppn : BitVec 44) : RowMatch.Statement (.satp64Unsupported7 ign ppn) := by
  intro _; simp [TableRow.admits, PortWord.bits, encode, encodeRoot64, Instr.row, root64_mode_bits]

theorem RowMatch.satp64Sv39 (ign : BitVec 16) (ppn : BitVec 44) : RowMatch.Statement (.satp64Sv39 ign ppn) := by
  intro _; simp [TableRow.admits, PortWord.bits, encode, encodeRoot64, Instr.row, root64_mode_bits]

theorem RowMatch.satp64Unsupported9 (ign : BitVec 16) (ppn : BitVec 44) : RowMatch.Statement (.satp64Unsupported9 ign ppn) := by
  intro _; simp [TableRow.admits, PortWord.bits, encode, encodeRoot64, Instr.row, root64_mode_bits]

theorem RowMatch.satp64Unsupported10 (ign : BitVec 16) (ppn : BitVec 44) : RowMatch.Statement (.satp64Unsupported10 ign ppn) := by
  intro _; simp [TableRow.admits, PortWord.bits, encode, encodeRoot64, Instr.row, root64_mode_bits]

theorem RowMatch.satp64Unsupported11 (ign : BitVec 16) (ppn : BitVec 44) : RowMatch.Statement (.satp64Unsupported11 ign ppn) := by
  intro _; simp [TableRow.admits, PortWord.bits, encode, encodeRoot64, Instr.row, root64_mode_bits]

theorem RowMatch.satp64Unsupported12 (ign : BitVec 16) (ppn : BitVec 44) : RowMatch.Statement (.satp64Unsupported12 ign ppn) := by
  intro _; simp [TableRow.admits, PortWord.bits, encode, encodeRoot64, Instr.row, root64_mode_bits]

theorem RowMatch.satp64Unsupported13 (ign : BitVec 16) (ppn : BitVec 44) : RowMatch.Statement (.satp64Unsupported13 ign ppn) := by
  intro _; simp [TableRow.admits, PortWord.bits, encode, encodeRoot64, Instr.row, root64_mode_bits]

theorem RowMatch.satp64Unsupported14 (ign : BitVec 16) (ppn : BitVec 44) : RowMatch.Statement (.satp64Unsupported14 ign ppn) := by
  intro _; simp [TableRow.admits, PortWord.bits, encode, encodeRoot64, Instr.row, root64_mode_bits]

theorem RowMatch.satp64Unsupported15 (ign : BitVec 16) (ppn : BitVec 44) : RowMatch.Statement (.satp64Unsupported15 ign ppn) := by
  intro _; simp [TableRow.admits, PortWord.bits, encode, encodeRoot64, Instr.row, root64_mode_bits]

theorem RowMatch.pteInvalid (data : Word64) : RowMatch.Statement (.pteInvalid data) := by
  intro h
  simp only [Instr.wf, beq_iff_eq] at h
  simp [TableRow.admits, PortWord.bits, encode, Instr.row, low_mask data 1 (0x1#64) rfl, h]

theorem RowMatch.pteReservedWnr (data : Word64) : RowMatch.Statement (.pteReservedWnr data) := by
  intro h
  simp only [Instr.wf, beq_iff_eq] at h
  simp [TableRow.admits, PortWord.bits, encode, Instr.row, low_mask data 3 (0x7#64) rfl, h]

theorem RowMatch.ptePointer (data : Word64) : RowMatch.Statement (.ptePointer data) := by
  intro h
  simp only [Instr.wf, beq_iff_eq] at h
  simp [TableRow.admits, PortWord.bits, encode, Instr.row, low_mask data 4 (0xF#64) rfl, h]

theorem RowMatch.pteLeafR (data : Word64) : RowMatch.Statement (.pteLeafR data) := by
  intro h
  simp only [Instr.wf, beq_iff_eq] at h
  simp [TableRow.admits, PortWord.bits, encode, Instr.row, low_mask data 2 (0x3#64) rfl, h]

theorem RowMatch.pteLeafXo (data : Word64) : RowMatch.Statement (.pteLeafXo data) := by
  intro h
  simp only [Instr.wf, beq_iff_eq] at h
  simp [TableRow.admits, PortWord.bits, encode, Instr.row, low_mask data 4 (0xF#64) rfl, h]

end Sys2Proof.Laws
end

