-- ==== Sys2Proof/Laws/Step.lean ====
section
/-! SUPPORT. What one step of the machine does to the registers, said once: the inversion lemmas that invariants and whole-machine
rules cite instead of unfolding the step. -/

namespace Sys2Proof.Machine

/-! ## Received words -/

/-- The bits that put a PTE word in its class (R76). -/
theorem decodePte_cases (d : Word64) :
    (d.getLsbD 0 = false ∧ decodePte d = .pteInvalid d) ∨
    (d.getLsbD 0 = true ∧ d.getLsbD 1 = true ∧ decodePte d = .pteLeafR d) ∨
    (d.getLsbD 0 = true ∧ d.getLsbD 1 = false ∧ d.getLsbD 2 = true ∧ decodePte d = .pteReservedWnr d) ∨
    (d.getLsbD 0 = true ∧ d.getLsbD 1 = false ∧ d.getLsbD 2 = false ∧ d.getLsbD 3 = true ∧ decodePte d = .pteLeafXo d) ∨
    (d.getLsbD 0 = true ∧ d.getLsbD 1 = false ∧ d.getLsbD 2 = false ∧ d.getLsbD 3 = false ∧ decodePte d = .ptePointer d) := by
  unfold decodePte
  cases d.getLsbD 0 <;> cases d.getLsbD 1 <;> cases d.getLsbD 2 <;> cases d.getLsbD 3 <;> simp

/-- The PTE word of a read keeps the low 32 bits of the data (R109). -/
theorem pteWord_getLsbD (isa : Isa) (d : Word64) (k : Nat) (h : k < 32) : (pteWord isa d).getLsbD k = d.getLsbD k := by
  cases isa
  · simp only [pteWord, BitVec.getLsbD_setWidth, BitVec.getLsbD_extractLsb', h, decide_true, Bool.true_and, Nat.zero_add,
      decide_eq_true (show k < 64 by omega)]
  · rfl

/-- What the receive step does with a recorded word, by the bits of the word (R168). -/
def receiveAct (d : Word64) : Word64 → Walker → Walker :=
  if d.getLsbD 0 = false then fun _ w => w.endFault .pteInvalid w.wLevel
  else if d.getLsbD 2 = true ∧ d.getLsbD 1 = false then fun _ w => w.endFault .pteReservedWnr w.wLevel
  else if d.getLsbD 1 = true ∨ d.getLsbD 3 = true then fun pte w => w.leafStep pte
  else fun pte w => w.pointerStep pte

/-- The run of a received word is one receive step (R168). -/
theorem exec_decode_pte (d : Word64) (s : State) : exec (decode (.pte d)) s = receivePte d (receiveAct d) s := by
  have key : receiveAct d =
      (match decodePte d with
        | .pteInvalid _ => fun _ w => w.endFault .pteInvalid w.wLevel
        | .pteReservedWnr _ => fun _ w => w.endFault .pteReservedWnr w.wLevel
        | .ptePointer _ => fun pte w => w.pointerStep pte
        | _ => fun pte w => w.leafStep pte) := by
    unfold receiveAct decodePte
    generalize d.getLsbD 0 = a
    generalize d.getLsbD 1 = b
    generalize d.getLsbD 2 = c
    generalize d.getLsbD 3 = e
    cases a <;> cases b <;> cases c <;> cases e <;> rfl
  rw [key]
  rcases decodePte_cases d with ⟨_, h⟩ | ⟨_, _, h⟩ | ⟨_, _, _, h⟩ | ⟨_, _, _, _, h⟩ | ⟨_, _, _, _, h⟩ <;>
    simp only [decode, h] <;> rfl

/-! ## The parts of a step -/

/-- A received word ends the request with a fault of its class, or goes to the leaf step or to the pointer step. -/
theorem receiveAct_cases (d pte : Word64) (w : Walker) :
    receiveAct d pte w = w.endFault .pteInvalid w.wLevel ∨ receiveAct d pte w = w.endFault .pteReservedWnr w.wLevel ∨
    receiveAct d pte w = w.leafStep pte ∨ receiveAct d pte w = w.pointerStep pte := by
  unfold receiveAct
  split
  · simp
  · split
    · simp
    · split <;> simp

/-- The leaf step ends with the fault of a leaf check, never with a diagnostic of another rule, or with the address (R191). -/
theorem leafStep_cases (pte : Word64) (w : Walker) :
    (∃ d, w.leafStep pte = w.endFault d w.wLevel ∧ d ≠ .none ∧ d ≠ .unsupportedMode) ∨
    w.leafStep pte = w.endOk (physAddr w.cIsa pte w.wLevel.toNat w.qVaddr) pte w.wLevel := by
  unfold Walker.leafStep
  split
  · rename_i d h
    refine .inl ⟨d, rfl, ?_⟩
    revert h
    unfold leafCheck purposeCheck
    cases w.qPurpose <;> grind
  · exact .inr rfl

/-- Dispatch ends the request at its own address, or starts a walk (R141 to R143). -/
theorem dispatch_cases (w : Walker) :
    (w.dispatch = w.endOk w.qVaddr 0 0 ∧ (excludedFromTranslation w.qPriv = true ∨ w.cMode = .bare)) ∨
    (w.dispatch = w.startWalk ∧ excludedFromTranslation w.qPriv = false ∧ w.cMode ≠ .bare) := by
  unfold Walker.dispatch
  split <;> simp_all

/-- What follows a recorded word writes none of the latches, the count, the trace and the sticky flag. -/
theorem receiveAct_frame (d pte : Word64) (w : Walker) :
    (receiveAct d pte w).qPurpose = w.qPurpose ∧ (receiveAct d pte w).qPriv = w.qPriv ∧ (receiveAct d pte w).qVaddr = w.qVaddr ∧
    (receiveAct d pte w).cIsa = w.cIsa ∧ (receiveAct d pte w).cMode = w.cMode ∧ (receiveAct d pte w).cRoot = w.cRoot ∧
    (receiveAct d pte w).cSum = w.cSum ∧ (receiveAct d pte w).cMxr = w.cMxr ∧ (receiveAct d pte w).wReads = w.wReads ∧
    (receiveAct d pte w).tPte0 = w.tPte0 ∧ (receiveAct d pte w).tPte1 = w.tPte1 ∧ (receiveAct d pte w).tPte2 = w.tPte2 ∧
    (receiveAct d pte w).tValid = w.tValid ∧ (receiveAct d pte w).sFatalCfg = w.sFatalCfg := by
  rcases receiveAct_cases d pte w with h | h | h | h <;> rw [h]
  · simp
  · simp
  · rcases leafStep_cases pte w with ⟨d, h, _⟩ | h <;> rw [h] <;> simp
  · unfold Walker.pointerStep
    split <;> simp

/-! ## The whole step -/

/-- The registers after the accept step of the request on the ports (R165). -/
abbrev acceptedWalker (s : State) : Walker :=
  (s.w.latchRequest (Purpose.ofCode s.inp.reqPurpose) (Priv.ofCode s.inp.reqPriv) s.inp.reqVaddr s.inp.cfgIsa s.inp.cfgSum
    s.inp.cfgMxr).refreshAndDispatch (refreshConfig s.inp.cfgIsa s.inp.cfgSatp)

/-- The steps of the walker (R165 to R172, R250) by what they do to the registers and to the recorded reads; every step takes the
stores of other agents into the image and leaves the parameter alone. -/
theorem step_walker {s t : State} (h : step s = .next t) :
    t.mem = storeBytes s.mem s.inp.envStores ∧ t.rsvdPriv = s.rsvdPriv ∧
    ((s.inp.rst = true ∧ t.w = Walker.reset ∧ t.hist = s.hist) ∨
     (s.inp.rst = false ∧ t.w = s.w ∧ t.hist = s.hist ∧ s.inp.memRespValid = false ∧
       ((s.w.fsm = .idle ∧ s.inp.reqValid = false) ∨ (s.w.fsm = .issue ∧ s.inp.memReqReady = false) ∨ s.w.fsm = .wait ∨
        (s.w.fsm = .resp ∧ s.inp.rspReady = false))) ∨
     (s.accepting ∧ s.requestInContract ∧ t.hist = s.hist ∧ t.w = acceptedWalker s) ∨
     (s.inp.rst = false ∧ s.w.fsm = .issue ∧ s.inp.memReqReady = true ∧ s.inp.memRespValid = false ∧
       s.w.wLevel.toNat < levels s.w.cIsa ∧ t.w = { s.w with fsm := .wait } ∧
       t.hist = ⟨s.w.readAddr, ptesize s.w.cIsa, s.w.wLevel⟩ :: s.hist) ∨
     (s.inp.rst = false ∧ s.w.fsm = .wait ∧ s.inp.memRespValid = true ∧ readerAnswer s = none ∧ t.w = s.w.receiveError ∧
       t.hist = s.hist) ∨
     (s.inp.rst = false ∧ s.w.fsm = .wait ∧ s.inp.memRespValid = true ∧ t.hist = s.hist ∧ s.w.wLevel.toNat < levels s.w.cIsa ∧
       ∃ d, readerAnswer s = some d ∧ t.w = receiveAct d (pteWord s.w.cIsa d) (s.w.recordPte (pteWord s.w.cIsa d))) ∨
     (s.inp.rst = false ∧ s.w.fsm = .resp ∧ s.inp.rspReady = true ∧ s.inp.memRespValid = false ∧ t.w = s.w.deliver ∧
       t.hist = s.hist)) := by
  rcases action_cases s with ⟨a, b⟩ | ⟨a, b, c, d⟩ | ⟨a, b, c, d⟩ | ⟨a, b, c, d⟩ | ⟨a, b, c, d⟩ | ⟨a, b, c, ⟨d, e⟩ | ⟨x, d, e⟩⟩ |
    ⟨a, b, c, d⟩
  · simp only [step, b] at h
    injection h with h
    subst h
    simp [a, resetStep]
  · simp [step, d] at h
  · cases hr : s.inp.reqValid <;> simp only [hr] at d <;> simp only [step, d] at h
    · injection h with h
      subst h
      simp_all
    · simp only [if_true] at h
      rw [decode_requestWord, exec_requestInstr] at h
      obtain ⟨u, hu, rfl⟩ := thenTick_eq_next h
      rcases acceptRequest_next hu with ⟨x, _⟩ | ⟨_, h1, h2, rfl⟩
      · exact absurd c x
      · simp_all [State.accepting, State.requestInContract]
  · cases hr : s.inp.memReqReady <;> simp only [hr] at d <;> simp only [step, d] at h
    · injection h with h
      subst h
      simp_all
    · simp only [if_true] at h
      obtain ⟨u, hu, rfl⟩ := thenTick_eq_next h
      obtain ⟨h1, rfl⟩ := issueStep_next hu
      simp_all
  · simp only [step, d] at h
    injection h with h
    subst h
    simp_all
  · simp only [step, e] at h
    injection h with h
    subst h
    simp_all [readErrorStep]
  · simp only [step, e, exec_decode_pte] at h
    obtain ⟨u, hu, rfl⟩ := thenTick_eq_next h
    obtain ⟨h1, h2, rfl⟩ := receivePte_next hu
    simp_all
  · cases hr : s.inp.rspReady <;> simp only [hr] at d <;> simp only [step, d] at h
    · injection h with h
      subst h
      simp_all
    · simp only [if_true] at h
      injection h with h
      subst h
      simp_all [deliverStep]

end Sys2Proof.Machine
end

