-- ==== Sys2Proof/Tests/Slice0.lean ====
section
/-! SUPPORT. Tests of the model, and for each statement with hypotheses a witness that meets them together. Expected results are
those of 95_test_vectors.md or are written out from the rule that the theorem names. -/

namespace Sys2Proof.Tests

open Sys2Proof Sys2Proof.Machine

/-! ## Small states -/

/-- An idle walker with a request on its ports. -/
def presenting (isa : Isa) (satp : Word64) (purpose priv : BitVec 2) (va : Word64) : State :=
  { State.reset with
    inp := { Inputs.quiet with
      reqValid := true, reqPurpose := purpose, reqPriv := priv, reqVaddr := va, cfgIsa := isa, cfgSatp := satp } }

/-- A walker in the middle of a Sv39 walk of `0x40001234` at `U`, at a level and in a state of its own. -/
def sv39Walk (fsm : Fsm) (level reads : BitVec 2) (valid : BitVec 3) (purpose : Purpose) : Walker :=
  { Walker.reset with
    fsm := fsm, qPurpose := purpose, qVaddr := 0x40001234, cIsa := .rv64, cMode := .sv39, cRoot := 0x80000
    wLevel := level, wFrame := 0x80002, wReads := reads, tValid := valid }

/-- A walker in the middle of a Sv32 walk of `0x00555ABC` at `U`, at level 1. -/
def sv32Walk (fsm : Fsm) (purpose : Purpose) : Walker :=
  { Walker.reset with
    fsm := fsm, qPurpose := purpose, qVaddr := 0x00555ABC, cIsa := .rv32, cMode := .sv32, cRoot := 0x80000
    wLevel := 1, wFrame := 0x80000 }

/-- A machine with these registers and inputs. -/
def machine (w : Walker) (inp : Inputs) : State := { State.reset with w := w, inp := inp }

/-- Inputs in which the Memory Reader answers a word. -/
def answering (data : Word64) : Inputs := { Inputs.quiet with memRespValid := true, memRespData := data }

/-- Inputs in which the Memory Reader answers `ReadError`. -/
def answeringError : Inputs := { Inputs.quiet with memRespValid := true, memRespErr := true }

/-- The next state of a step, or the state itself where there is none. -/
def after (s : State) : State :=
  match step s with
  | .next t => t
  | _ => s

/-- Waiting at the last level of a Sv39 walk, with a word answered. -/
def lastRead (purpose : Purpose) (data : Word64) : State := machine (sv39Walk .wait 0 2 6 purpose) (answering data)

/-- Waiting at the top level of a Sv39 walk, with a word answered. -/
def firstRead (purpose : Purpose) (data : Word64) : State := machine (sv39Walk .wait 2 0 0 purpose) (answering data)

/-- The same, as the state in which an instruction runs. -/
def waitingAt (level reads : BitVec 2) (valid : BitVec 3) (purpose : Purpose) : State :=
  machine (sv39Walk .wait level reads valid purpose) Inputs.quiet

/-- The registers after an instruction, where it answers a next state. -/
def registersAfter (i : Instr) (s : State) : Option Walker :=
  match exec i s with
  | .next t => some t.w
  | _ => none

/-! ## Well-formedness: an ill-formed term for each check, refused -/

theorem test_wf_refuses_invalid_with_V : (Instr.pteInvalid 0x1).wf = false := by decide
theorem test_wf_refuses_reserved_with_R : (Instr.pteReservedWnr 0x7).wf = false := by decide
theorem test_wf_refuses_pointer_with_X : (Instr.ptePointer 0x9).wf = false := by decide
theorem test_wf_refuses_leafR_without_R : (Instr.pteLeafR 0x9).wf = false := by decide
theorem test_wf_refuses_leafXo_with_R : (Instr.pteLeafXo 0xB).wf = false := by decide

/-! ## Decoding: words written out from the encodings -/

/-- Command word {priv, purpose} (R88, R80, R81). -/
theorem test_decode_requests :
    decode (.req 0b1100 7) = .translateFetch .m 7 ∧ decode (.req 0b0001 7) = .translateLoad .u 7 ∧
    decode (.req 0b0110 7) = .translateStoreamo .s 7 ∧ decode (.req 0b1011 7) = .translateDeleg .rsvd 7 := by decide

/-- MODE bit 31, ignored bits 30:22, PPN bits 21:0 (R25). -/
theorem test_decode_satp32 :
    decode (.root32 0b0_000000001_1000000000000000000010) = .satp32Bare 1 0x200002 ∧
    decode (.root32 0b1_100000000_0000000000000000000101) = .satp32Sv32 0x100 5 := by decide

/-- MODE bits 63:60, ignored bits 59:44, PPN bits 43:0 (R26): the two supported modes. -/
theorem test_decode_satp64_supported :
    decode (.root64 0x0800180000000001) = .satp64Bare 0x8001 0x80000000001 ∧
    decode (.root64 0x8000100000080000) = .satp64Sv39 0x0001 0x80000 := by decide

/-- MODE bits 63:60 (R26, R91): the unsupported modes 1 to 7. -/
theorem test_decode_satp64_unsupported_low :
    decode (.root64 0x1000100000000002) = .satp64Unsupported1 1 2 ∧ decode (.root64 0x2000100000000002) = .satp64Unsupported2 1 2 ∧
    decode (.root64 0x3000100000000002) = .satp64Unsupported3 1 2 ∧ decode (.root64 0x4000100000000002) = .satp64Unsupported4 1 2 ∧
    decode (.root64 0x5000100000000002) = .satp64Unsupported5 1 2 ∧ decode (.root64 0x6000100000000002) = .satp64Unsupported6 1 2 ∧
    decode (.root64 0x7000100000000002) = .satp64Unsupported7 1 2 := by decide

/-- MODE bits 63:60 (R26, R91): the unsupported modes 9 to 15. -/
theorem test_decode_satp64_unsupported_high :
    decode (.root64 0x9000100000000002) = .satp64Unsupported9 1 2 ∧ decode (.root64 0xA000100000000002) = .satp64Unsupported10 1 2 ∧
    decode (.root64 0xB000100000000002) = .satp64Unsupported11 1 2 ∧ decode (.root64 0xC000100000000002) = .satp64Unsupported12 1 2 ∧
    decode (.root64 0xD000100000000002) = .satp64Unsupported13 1 2 ∧ decode (.root64 0xE000100000000002) = .satp64Unsupported14 1 2 ∧
    decode (.root64 0xF000100000000002) = .satp64Unsupported15 1 2 := by decide

/-- PTE class by `X W R V`, bits 3 to 0 (R76): `V` = 0 with the eight values of the others. -/
theorem test_decode_pte_invalid :
    decode (.pte 0b0000) = .pteInvalid 0b0000 ∧ decode (.pte 0b0010) = .pteInvalid 0b0010 ∧
    decode (.pte 0b0100) = .pteInvalid 0b0100 ∧ decode (.pte 0b0110) = .pteInvalid 0b0110 ∧
    decode (.pte 0b1000) = .pteInvalid 0b1000 ∧ decode (.pte 0b1010) = .pteInvalid 0b1010 ∧
    decode (.pte 0b1100) = .pteInvalid 0b1100 ∧ decode (.pte 0b1110) = .pteInvalid 0b1110 := by decide

/-- PTE class by `X W R V`, bits 3 to 0 (R76): `V` = 1 with the eight values of the others. -/
theorem test_decode_pte_valid :
    decode (.pte 0b0001) = .ptePointer 0b0001 ∧ decode (.pte 0b0011) = .pteLeafR 0b0011 ∧
    decode (.pte 0b0101) = .pteReservedWnr 0b0101 ∧ decode (.pte 0b0111) = .pteLeafR 0b0111 ∧
    decode (.pte 0b1001) = .pteLeafXo 0b1001 ∧ decode (.pte 0b1011) = .pteLeafR 0b1011 ∧
    decode (.pte 0b1101) = .pteReservedWnr 0b1101 ∧ decode (.pte 0b1111) = .pteLeafR 0b1111 := by decide

/-- The PTEs of images A and B (95_test_vectors.md section 3.3). -/
theorem test_decode_pte_images :
    decode (.pte 0x20048CD7) = .pteLeafR 0x20048CD7 ∧ decode (.pte 0x20049059) = .pteLeafXo 0x20049059 ∧
    decode (.pte 0x20000401) = .ptePointer 0x20000401 ∧ decode (.pte 0x003FFFFFFFFFFC00) = .pteInvalid 0x003FFFFFFFFFFC00 := by decide

/-- Words that are no port word are rejected, by name. -/
theorem test_tableWord_rejects :
    tableWord 8 0x10 = .error .aboveCommandWord ∧ tableWord 32 0x100000000 = .error .aboveRootWord ∧
    tableWord 64 0x10000000000000000 = .error .aboveRootWord ∧ tableWord 16 0 = .error .noSuchFormat := by
  simp [tableWord]

/-- The opcode table's numbering (bit 0 first). -/
theorem test_decodeTableWord :
    decodeTableWord 8 0x6 = some (.translateStoreamo .s 0) ∧ decodeTableWord 32 0x80000000 = some (.satp32Sv32 0 0) ∧
    decodeTableWord 64 0x8000000000000000 = some (.satp64Sv39 0 0) ∧ decodeTableWord 8 0x10 = none :=
  ⟨rfl, rfl, rfl, rfl⟩

/-- One instruction of every row. -/
def oneOfEachRow : List Instr :=
  [.translateFetch .u 0, .translateLoad .u 0, .translateStoreamo .u 0, .translateDeleg .u 0, .satp32Bare 0 0, .satp32Sv32 0 0,
   .satp64Bare 0 0, .satp64Unsupported1 0 0, .satp64Unsupported2 0 0] ++
  [.satp64Unsupported3 0 0, .satp64Unsupported4 0 0, .satp64Unsupported5 0 0, .satp64Unsupported6 0 0, .satp64Unsupported7 0 0,
   .satp64Sv39 0 0, .satp64Unsupported9 0 0, .satp64Unsupported10 0 0, .satp64Unsupported11 0 0] ++
  [.satp64Unsupported12 0 0, .satp64Unsupported13 0 0, .satp64Unsupported14 0 0, .satp64Unsupported15 0 0, .pteInvalid 0,
   .pteReservedWnr 5, .ptePointer 1, .pteLeafR 3, .pteLeafXo 9]

/-- No word belongs to two rows of the opcode table: two rows of one format differ in a bit that both fix. -/
theorem test_rows_disjoint :
    oneOfEachRow.Pairwise fun i j =>
      i.row.format ≠ j.row.format ∨ i.row.value &&& (i.row.mask &&& j.row.mask) ≠ j.row.value &&& (i.row.mask &&& j.row.mask) := by
  decide

/-! ## Operands (95_test_vectors.md sections 3.1 to 3.4) -/

theorem test_vpn_fields :
    (vpn39 0xFFFFFF8040001234 2, vpn39 0xFFFFFF8040001234 1, vpn39 0xFFFFFF8040001234 0) = (0x001, 0x000, 0x001) ∧
    (vpn32 0x12345678 1, vpn32 0x12345678 0, offset 0x12345678) = (0x048, 0x345, 0x678) := by decide

theorem test_pte_segments :
    (ppn2Sv39 0x20080057, ppn1Sv39 0x20080057, ppn0Sv39 0x20080057) = (0x2, 0x001, 0x000) ∧
    (ppn1Sv32 0x12400453, ppn0Sv32 0x12400453) = (0x124, 0x001) ∧ ptePpn .rv32 0xFFFFFCDF = 0x3FFFFF ∧
    ptePpn .rv64 0xFFFFFFFFFFFFFFFF = 0xFFFFFFFFFFF ∧ pteWord .rv32 0xDEADBEEF12300053 = 0x12300053 := by decide

theorem test_pte_addresses :
    pteAddr .rv64 0xFFFFFFFFFFF 0x7FFFFFFFFF 2 = 0xFFFFFFFFFFFFF8 ∧ pteAddr .rv32 0x3FFFFF 0xFFFFFFFF 1 = 0x3FFFFFFFC ∧
    pteAddr .rv64 0x80002 0x40001234 0 = 0x80002008 ∧ pteAddr .rv32 0x80001 0x00800123 0 = 0x80001000 := by decide

theorem test_refresh :
    refreshConfig .rv32 0xFFFFFFFF = some (.sv32, 0x3FFFFF) ∧ refreshConfig .rv32 0x0000123400000000 = some (.bare, 0) ∧
    refreshConfig .rv64 0x0FFFFFFFFFFFFFFF = some (.bare, 0xFFFFFFFFFFF) ∧ refreshConfig .rv64 0xF000000000000000 = none := by decide

theorem test_physical_addresses :
    physAddr .rv32 0x12300053 1 0x00555ABC = 0x48D55ABC ∧ physAddr .rv32 0xFFFFFCDF 0 0x00800123 = 0x3FFFFF123 ∧
    physAddr .rv64 0x20080057 1 0x40212345 = 0x80212345 ∧ physAddr .rv64 0x300000CF 2 0xBFFFFFFF = 0xFFFFFFFF := by decide

/-- Byte order of the image (R54) and an unlisted byte (R59). -/
theorem test_image :
    readImage [(0x100, 0x78), (0x101, 0x56), (0x102, 0x34), (0x103, 0x12)] .rv32 0x100 = some 0x12345678 ∧
    readImage [(0x100, 0x78), (0x101, 0x56), (0x103, 0x12)] .rv32 0x100 = none ∧
    storeBytes [(5, 1)] [(3, 2), (5, 9)] = [(3, 2), (5, 9)] := by decide

/-! ## Requests: the accept step -/

/-- `TRANSLATE.FETCH S` under Bare (P1). -/
theorem test_fetch_bare :
    let t := after (presenting .rv64 0x0000000000080000 0 1 0x40001234)
    t.w.fsm = .resp ∧ t.w.rKind = .ok ∧ t.w.rPaddr = 0x40001234 ∧ t.w.wReads = 0 := by decide

/-- `TRANSLATE.LOAD U`, image A: step 0 of section 3.10. -/
theorem test_load_starts_walk :
    let t := after (presenting .rv64 0x8000000000080000 1 0 0x40001234)
    t.w.fsm = .issue ∧ t.w.wLevel = 2 ∧ t.w.wFrame = 0x80000 ∧ t.w.tValid = 0 ∧ t.w.qPurpose = .load ∧
    memReq t.w = some ⟨0x80000008, 1⟩ := by decide

/-- `TRANSLATE.LOAD M` with MODE 9 (R122). -/
theorem test_load_machine_config_error :
    let t := after (presenting .rv64 0x9000000000080000 1 3 0x40001234)
    t.w.rKind = .configError ∧ t.w.rDiag = .unsupportedMode ∧ t.w.rPaddr = 0 ∧ t.w.sFatalCfg = true := by decide

/-- `TRANSLATE.STOREAMO M`, image A (P2): identity with no read. -/
theorem test_storeamo_machine :
    let t := after (presenting .rv64 0x8000000000080000 2 3 0x100000000)
    t.w.fsm = .resp ∧ t.w.rKind = .ok ∧ t.w.rPaddr = 0x100000000 ∧ t.w.wReads = 0 := by decide

/-- `TRANSLATE.STOREAMO S`, image B: the top level of Sv32. -/
theorem test_storeamo_starts_walk :
    let t := after (presenting .rv32 0x80080000 2 1 0x00800123)
    t.w.fsm = .issue ∧ t.w.wLevel = 1 ∧ t.w.wFrame = 0x80000 ∧ memReq t.w = some ⟨0x80000008, 0⟩ := by decide

/-- `TRANSLATE.DELEG RSVD`: the default of `RSVD_PRIV_BEHAVIOUR` (R141). -/
theorem test_deleg_reserved_level :
    let t := after (presenting .rv64 0x8000000000080000 3 2 0x40002ABC)
    t.w.qPurpose = .deleg ∧ t.w.qPriv = .rsvd ∧ t.w.rKind = .ok ∧ t.w.rPaddr = 0x40002ABC := by decide

/-- `TRANSLATE.FETCH U` under RV32 with a nonzero upper half (R47, U7). -/
theorem test_fetch_high_half_refused :
    step (presenting .rv32 0x80080000 0 0 0x100000000) = .refused .rv32HighVaddr := rfl

/-! ## Root registers -/

theorem test_satp32_rows :
    (registersAfter (.satp32Bare 0x1FF 0x3FFFFF) State.reset).map (fun w => (w.cMode, w.cRoot)) = some (.bare, 0x3FFFFF) ∧
    (registersAfter (.satp32Sv32 0 0x80000) State.reset).map (fun w => (w.cMode, w.cRoot)) = some (.sv32, 0x80000) := by decide

theorem test_satp64_supported_rows :
    (registersAfter (.satp64Bare 0xFFFF 0xFFFFFFFFFFF) State.reset).map (fun w => (w.cMode, w.cRoot)) = some (.bare, 0xFFFFFFFFFFF) ∧
    (registersAfter (.satp64Sv39 0 0x80000) State.reset).map (fun w => (w.cMode, w.cRoot)) = some (.sv39, 0x80000) := by decide

/-- Every unsupported mode: kind, flag and the kept snapshot (R123). -/
theorem test_satp64_unsupported_rows :
    ∀ i ∈ oneOfEachRow.filter (fun i => decide (i.row.format = .satp64 ∧ i.row.value ≠ 0 ∧ i.row.value ≠ 0x8000000000000000)),
      (registersAfter i (waitingAt 0 2 6 .load)).map (fun w => (w.rKind, w.sFatalCfg, w.cMode, w.cRoot, w.fsm)) =
        some (.configError, true, .sv39, 0x80000, .resp) := by decide

/-! ## Received words (image A, image B and section 3.10) -/

/-- Step 3 of section 3.10. -/
theorem test_pointer_goes_down :
    let t := after (machine { sv39Walk .wait 2 0 0 .load with wFrame := 0x80000 } (answering 0x20000401))
    t.w.fsm = .issue ∧ t.w.wLevel = 1 ∧ t.w.wFrame = 0x80001 ∧ t.w.wReads = 1 ∧ t.w.tValid = 0b100 ∧
    memReq t.w = some ⟨0x80001000, 1⟩ := by decide

/-- P7: a pointer at level 0. -/
theorem test_pointer_at_level_0 :
    let t := after (lastRead .load 0x20000C01)
    t.w.rKind = .fault ∧ t.w.rCause = 13 ∧ t.w.rDiag = .noLeaf ∧ t.w.rLevel = 0 ∧ t.w.wReads = 3 := by decide

/-- Step 7 of section 3.10. -/
theorem test_leafR_ok :
    let t := after (lastRead .load 0x20048CD7)
    t.w.rKind = .ok ∧ t.w.rPaddr = 0x80123234 ∧ t.w.rLeafPte = 0x20048CD7 ∧ t.w.tPte0 = 0x20048CD7 ∧ t.w.tValid = 0b111 := by decide

/-- Image B, P3: a 4 MiB page, upper word bits ignored. -/
theorem test_leafR_sv32_superpage :
    let t := after (machine (sv32Walk .wait .load) (answering 0xDEADBEEF12300053))
    t.w.rKind = .ok ∧ t.w.rPaddr = 0x48D55ABC ∧ t.w.rLevel = 1 ∧ t.w.wReads = 1 ∧ t.w.tPte1 = 0x12300053 := by decide

/-- An execute-only page: a fetch passes. -/
theorem test_leafXo_fetch :
    let t := after (lastRead .fetch 0x20049059)
    t.w.rKind = .ok ∧ t.w.rPaddr = 0x80124234 ∧ t.w.rCause = 0 := by decide

/-- An execute-only page: a load without MXR. -/
theorem test_leafXo_load :
    let t := after (lastRead .load 0x20049059)
    t.w.rKind = .fault ∧ t.w.rDiag = .readDenied ∧ t.w.rCause = 13 ∧ t.w.rPaddr = 0 ∧ t.w.rLeafPte = 0 := by decide

/-- P4, at the top level. -/
theorem test_invalid :
    let t := after (firstRead .storeamo 0)
    t.w.rKind = .fault ∧ t.w.rDiag = .pteInvalid ∧ t.w.rCause = 15 ∧ t.w.rLevel = 2 ∧ t.w.wReads = 1 := by decide

/-- Image A: L1[2], and `X W R` = 110 (R181). -/
theorem test_reserved_wnr :
    (after (firstRead .storeamo 0x5)).w.rDiag = .pteReservedWnr ∧ (after (firstRead .fetch 0xD)).w.rDiag = .pteReservedWnr ∧
    (after (firstRead .fetch 0xD)).w.rCause = 12 := by decide

/-! ## Steps that run no row -/

theorem test_read_error :
    let t := after (machine (sv32Walk .wait .load) answeringError)
    t.w.rDiag = .memReadError ∧ t.w.rCause = 13 ∧ t.w.rLevel = 1 ∧ t.w.wReads = 1 ∧ t.w.tValid = 0 := by decide

theorem test_issue_records_the_read :
    let t := after (machine (sv32Walk .issue .load) { Inputs.quiet with memReqReady := true })
    t.w.fsm = .wait ∧ t.hist = [⟨0x80000004, 4, 1⟩] := by decide

/-- Section 3.11. -/
theorem test_reset_in_wait :
    (after (machine (sv39Walk .wait 1 1 4 .load) { Inputs.quiet with rst := true })).w = Walker.reset := by decide

/-! ## Whole requests as a function (sections 3.5 to 3.9) -/

/-- Image A at the addresses of three walks. -/
def imageA : ReadOracle := fun _ a =>
  if a = 0x80000008 then some 0x20000401 else if a = 0x80001000 then some 0x20000801 else if a = 0x80002008 then some 0x20048CD7
  else if a = 0x80002010 then some 0x20049059 else if a = 0x80001008 then some 0x20080057 else none

theorem test_translate_walks :
    translate .load .u 0x40001234 .rv64 0x8000000000080000 false false imageA = (.ok 0x80123234, 3) ∧
    translate .load .s 0x40002ABC .rv64 0x8000000000080000 false true imageA = (.pageFault 13 .sumDenied 0, 3) ∧
    translate .storeamo .u 0x40212345 .rv64 0x8000000000080000 false false imageA = (.pageFault 15 .dirtyClear 1, 2) ∧
    translate .fetch .u 0x40005000 .rv64 0x8000000000080000 false false imageA = (.pageFault 12 .memReadError 0, 3) := by decide

/-! ## Witnesses: for each statement with hypotheses, states and operands that meet them together -/

/-- A machine under `RSVD_PRIV_BEHAVIOUR` = `REFUSE`. -/
def refusing (s : State) : State := { s with rsvdPriv := .refuse }

/-- Level 2 under RV32: a level the ISA width does not have. -/
def outOfRange (fsm : Fsm) (inp : Inputs) : State := machine { sv32Walk fsm .load with wLevel := 2 } inp

/-- Inputs in which the Memory Reader takes a read. -/
def taking : Inputs := { Inputs.quiet with memReqReady := true }

/-- A held response. -/
def responding (inp : Inputs) : State := machine { Walker.reset with fsm := .resp, rPaddr := 0x123 } inp

theorem wit_DecodeOfEncodeIsIdentity : ∀ i ∈ oneOfEachRow, i.wf = true := by decide

theorem wit_CommandWordSelectsOperation :
    (0xC#4).extractLsb' 0 2 = 0x0#2 ∧ (0x1#4).extractLsb' 0 2 = 0x1#2 ∧ (0xA#4).extractLsb' 0 2 = 0x2#2 ∧
    (0xF#4).extractLsb' 0 2 = 0x3#2 := by decide

theorem wit_PteAddressIsExactSum : (0x3FFFFF : Frame).toNat < 2 ^ 22 := by decide

theorem wit_Sv39RootRegisterRefresh :
    (0x0FFFFFFFFFFFFFFF : Word64).extractLsb' 60 4 = 0x0#4 ∧ (0x8000000000080000 : Word64).extractLsb' 60 4 = 0x8#4 ∧
    (0x9000000000080000 : Word64).extractLsb' 60 4 ≠ 0x0#4 ∧ (0x9000000000080000 : Word64).extractLsb' 60 4 ≠ 0x8#4 := by decide

theorem wit_UnsupportedRootRowsEndTheRequest :
    Instr.satp64Unsupported15 0xFFFF 0xFFFFFFFFFFF ∈
      [Instr.satp64Unsupported14 0xFFFF 0xFFFFFFFFFFF, .satp64Unsupported15 0xFFFF 0xFFFFFFFFFFF] := by decide

/-- Both ISA widths, the RV32 one at the top of its address space. -/
theorem wit_BareRequestsAreIdentity :
    let s := presenting .rv32 0x7FFFFFFF 1 1 0xFFFFFFFF
    let s' := presenting .rv64 0x0000000000080000 2 0 0xFFFFFFFFFFFFF000
    (Instr.translateLoad .s 0xFFFFFFFF, Purpose.load) ∈ requestOps .s 0xFFFFFFFF ∧ s.w.fsm = .idle ∧
    (0xFFFFFFFF : Word64).extractLsb' 32 32 = 0 ∧ refreshConfig s.inp.cfgIsa s.inp.cfgSatp = some (.bare, 0x3FFFFF) ∧
    (Instr.translateStoreamo .u 0xFFFFFFFFFFFFF000, Purpose.storeamo) ∈ requestOps .u 0xFFFFFFFFFFFFF000 ∧ s'.w.fsm = .idle ∧
    s'.inp.cfgIsa ≠ .rv32 ∧ refreshConfig s'.inp.cfgIsa s'.inp.cfgSatp = some (.bare, 0x80000) := by decide

theorem wit_ExcludedLevelsAreIdentity :
    let s := presenting .rv64 0x8000000000080000 1 2 7
    let s' := presenting .rv64 0x9000000000080000 0 3 7
    (Instr.translateLoad .rsvd 7, Purpose.load) ∈ requestOps .rsvd 7 ∧ s.w.fsm = .idle ∧ s.inp.cfgIsa ≠ .rv32 ∧
    s.rsvdPriv = .identity ∧ refreshConfig s.inp.cfgIsa s.inp.cfgSatp = some (.sv39, 0x80000) ∧
    (Instr.translateFetch .m 7, Purpose.fetch) ∈ requestOps .m 7 ∧ s'.w.fsm = .idle ∧ s'.inp.cfgIsa ≠ .rv32 ∧
    refreshConfig s'.inp.cfgIsa s'.inp.cfgSatp = none := by decide

theorem wit_TranslatedRequestStartsWalk :
    let s := presenting .rv32 0x80080000 2 1 0xFFFFFFFF
    let s' := presenting .rv64 0x8000000000080000 3 0 0x7FFFFFFFFF
    (Instr.translateStoreamo .s 0xFFFFFFFF, Purpose.storeamo) ∈ requestOps .s 0xFFFFFFFF ∧ s.w.fsm = .idle ∧
    (0xFFFFFFFF : Word64).extractLsb' 32 32 = 0 ∧ refreshConfig s.inp.cfgIsa s.inp.cfgSatp = some (.sv32, 0x80000) ∧
    (Instr.translateDeleg .u 0x7FFFFFFFFF, Purpose.deleg) ∈ requestOps .u 0x7FFFFFFFFF ∧ s'.w.fsm = .idle ∧
    s'.inp.cfgIsa ≠ .rv32 ∧ refreshConfig s'.inp.cfgIsa s'.inp.cfgSatp = some (.sv39, 0x80000) := by decide

theorem wit_UnsupportedModeEndsEveryRequest :
    let s := presenting .rv64 0xF000000000000000 1 3 7
    (Instr.translateLoad .m 7, Purpose.load) ∈ requestOps .m 7 ∧ s.w.fsm = .idle ∧ Priv.m ≠ .rsvd ∧ s.inp.cfgIsa = .rv64 ∧
    s.inp.cfgSatp.extractLsb' 60 4 ≠ 0x0#4 ∧ s.inp.cfgSatp.extractLsb' 60 4 ≠ 0x8#4 := by decide

theorem wit_RequestsOutsideContractAreRefused :
    let s := presenting .rv32 0x80080000 0 3 0x100000000
    let s' := refusing (presenting .rv32 0x80080000 1 2 0xFFFFFFFF)
    (Instr.translateFetch .m 0x100000000, Purpose.fetch) ∈ requestOps .m 0x100000000 ∧ s.w.fsm = .idle ∧ s.inp.cfgIsa = .rv32 ∧
    (0x100000000 : Word64).extractLsb' 32 32 ≠ 0 ∧
    (Instr.translateLoad .rsvd 0xFFFFFFFF, Purpose.load) ∈ requestOps .rsvd 0xFFFFFFFF ∧ s'.w.fsm = .idle ∧
    (0xFFFFFFFF : Word64).extractLsb' 32 32 = 0 ∧ s'.rsvdPriv = .refuse := by decide

theorem wit_BusyWalkerAcceptsNoRequest :
    (Instr.translateLoad .u 7, Purpose.load) ∈ requestOps .u 7 ∧ (waitingAt 0 2 6 .load).w.fsm ≠ .idle := by decide

theorem wit_IssueStepTakesTheRead :
    let s := machine (sv32Walk .issue .load) taking
    s.inp.rst = false ∧ s.inp.memRespValid = false ∧ s.w.fsm = .issue ∧ s.inp.memReqReady = true ∧
    s.w.wLevel.toNat < levels s.w.cIsa := by decide

theorem wit_FailedReadEndsWithFault :
    let s := machine (sv32Walk .wait .load) answeringError
    s.inp.rst = false ∧ s.w.fsm = .wait ∧ s.inp.memRespValid = true ∧ readerAnswer s = none := by decide

/-- A read answered from the image that lists no byte of the PTE. -/
theorem wit_FailedReadEndsWithFault_image :
    let s := machine (sv39Walk .wait 2 0 0 .load) Inputs.answersFromImage
    s.inp.rst = false ∧ s.w.fsm = .wait ∧ s.inp.memRespValid = true ∧ readerAnswer s = none := by decide

theorem wit_ReceiveStepSortsThePte :
    let s := firstRead .load 0x20000401
    s.inp.rst = false ∧ s.w.fsm = .wait ∧ s.inp.memRespValid = true ∧ readerAnswer s = some 0x20000401 ∧
    s.w.wLevel.toNat < levels s.w.cIsa := by decide

/-- The clauses: a reset, an accept step, an answered word, a failed read, and a step that is none of them. -/
theorem wit_ResponsesAreCountedAndTraced :
    (∃ s t, step s = .next t ∧ s.inp.rst = true) ∧ (∃ s t, step s = .next t ∧ s.accepting) ∧
    (∃ s t, step s = .next t ∧ s.inp.rst = false ∧ s.w.fsm = .wait ∧ s.inp.memRespValid = true ∧ readerAnswer s = some 0x20048CD7) ∧
    (∃ s t, step s = .next t ∧ s.inp.rst = false ∧ s.w.fsm = .wait ∧ s.inp.memRespValid = true ∧ readerAnswer s = none) ∧
    (∃ s t, step s = .next t ∧ s.inp.rst = false ∧ ¬ s.accepting ∧ ¬ (s.w.fsm = .wait ∧ s.inp.memRespValid = true)) :=
  ⟨⟨machine (sv39Walk .wait 1 1 4 .load) { answering 5 with rst := true }, _, rfl, rfl⟩,
   ⟨presenting .rv64 0x8000000000080000 1 0 7, _, rfl, by decide⟩,
   ⟨lastRead .load 0x20048CD7, _, rfl, rfl, rfl, rfl, by decide⟩,
   ⟨machine (sv32Walk .wait .load) answeringError, _, rfl, rfl, rfl, rfl, by decide⟩,
   ⟨machine (sv32Walk .issue .load) taking, _, rfl, rfl, by decide, by decide⟩⟩

/-- The decode clauses at words with the other bits set. -/
theorem wit_InvalidAndReservedPtesEndWithFault :
    (0xFFFFFFFFFFFFFFFE : Word64).getLsbD 0 = false ∧ (0xFFFFFFFFFFFFFFFD : Word64).getLsbD 0 = true ∧
    (0xFFFFFFFFFFFFFFFD : Word64).getLsbD 2 = true ∧ (0xFFFFFFFFFFFFFFFD : Word64).getLsbD 1 = false := by decide

theorem wit_ReceivedWordMeetsItsLevel :
    let s := waitingAt 2 0 0 .fetch
    s.w.fsm = .wait ∧ s.w.wLevel.toNat < levels s.w.cIsa ∧ s.w.wLevel ≠ 0 := by decide

theorem wit_PointerPteAtLevelZeroFaults : (waitingAt 0 2 6 .load).w.fsm = .wait ∧ (waitingAt 0 2 6 .load).w.wLevel = 0 := by decide

/-- A leaf that passes every check and one that fails one. -/
theorem wit_LeafPtesAreCheckedAndTranslated :
    let s := waitingAt 0 2 6 .load
    s.w.fsm = .wait ∧ s.w.wLevel.toNat < levels s.w.cIsa ∧
    leafCheck s.w.qPurpose s.w.qPriv s.w.cSum s.w.cMxr s.w.cIsa (pteWord s.w.cIsa 0x20048CD7) s.w.wLevel.toNat = none ∧
    leafCheck s.w.qPurpose s.w.qPriv s.w.cSum s.w.cMxr s.w.cIsa (pteWord s.w.cIsa 0x20049059) s.w.wLevel.toNat = some .readDenied := by
  decide

theorem wit_PteOutsideWaitIsRefused : State.reset.w.fsm ≠ .wait := by decide

theorem wit_LevelsTheIsaLacksStopByName :
    let s := outOfRange .wait (answering 0)
    let s' := outOfRange .issue taking
    levels s.w.cIsa ≤ s.w.wLevel.toNat ∧ s.w.fsm = .wait ∧ levels s'.w.cIsa ≤ s'.w.wLevel.toNat ∧ s'.inp.rst = false ∧
    s'.inp.memRespValid = false ∧ s'.w.fsm = .issue ∧ s'.inp.memReqReady = true := by decide

/-- One PTE for each clause of the leaf checks, in the order of the clauses; image A, and the misaligned superpages of both images at
the top level of each ISA width and at level 1 of Sv39. -/
theorem wit_LeafChecksInOrder :
    leafCheck .load .u false false .rv64 0x20049413 0 = some .accessedClear ∧
    leafCheck .load .u false false .rv64 0x200498C7 0 = some .userDenied ∧
    leafCheck .deleg .u false false .rv64 0x20048CD7 0 = some .execDenied ∧
    leafCheck .storeamo .s false false .rv64 0x20048CD7 0 = some .sumDenied ∧
    leafCheck .load .u false false .rv64 0x20049059 0 = some .readDenied ∧
    leafCheck .storeamo .u false false .rv32 0x12300053 1 = some .writeDenied ∧
    leafCheck .storeamo .u false false .rv64 0x20080057 1 = some .dirtyClear ∧
    leafCheck .load .s false false .rv64 0x30000443 2 = some .misalignedSuperpage ∧
    leafCheck .load .s true false .rv64 0x80043 2 = some .misalignedSuperpage ∧
    leafCheck .load .u false false .rv32 0x12400453 1 = some .misalignedSuperpage ∧
    leafCheck .fetch .s false false .rv64 0x20049059 0 = none ∧
    leafCheck .load .u false true .rv64 0x20049059 0 = none ∧
    leafCheck .storeamo .s true false .rv64 0x20048CD7 0 = none := by decide

theorem wit_PhysicalAddressIsReconstructed :
    (1 : Nat) < 2 ∧ (2 : Nat) < 3 ∧ (2 : Nat) < levels .rv64 ∧ misalignedSuperpage .rv64 0x300000CF 2 = false ∧
    (1 : Nat) < levels .rv32 ∧ misalignedSuperpage .rv32 0x12300053 1 = false := by decide

theorem wit_LeafMapsOnePage :
    (Isa.rv64, 2, 1073741824) ∈ [(Isa.rv32, 0, 4096), (.rv32, 1, 4194304), (.rv64, 0, 4096), (.rv64, 1, 2097152), (.rv64, 2, 1073741824)] := by
  decide

theorem wit_IgnoredBitsHaveNoEffect :
    (0xFFFFFFFFFFFFFFFF : Word64) &&& 0x003FFFFFFFFFFCDF#64 = 0x003FFFFFFFFFFCDF &&& 0x003FFFFFFFFFFCDF#64 ∧
    (0x200004F1 : Word64) &&& 0x003FFFFFFFFFFC0F#64 = 0x20000401 &&& 0x003FFFFFFFFFFC0F#64 ∧
    (0xDEADBEEF12300053 : Word64).extractLsb' 0 32 = (0x12300053 : Word64).extractLsb' 0 32 ∧
    (sv32Walk .wait .load).cIsa = .rv32 ∧
    (0xFFFFFF8040001234 : Word64).extractLsb' 0 39 = (0x40001234 : Word64).extractLsb' 0 39 ∧
    (0x12347FC00001 : Word64) &&& 0x803FFFFF#64 = 0x1 &&& 0x803FFFFF#64 ∧
    (0x8FFFF00000080000 : Word64) &&& 0xF0000FFFFFFFFFFF#64 = 0x8000000000080000 &&& 0xF0000FFFFFFFFFFF#64 := by decide

theorem wit_ResponseIsHeldUntilTaken :
    let s := responding Inputs.quiet
    let s' := responding { Inputs.quiet with rspReady := true }
    s.inp.rst = false ∧ s.inp.memRespValid = false ∧ s.w.fsm = .resp ∧ s.inp.rspReady = false ∧
    s'.inp.rst = false ∧ s'.inp.memRespValid = false ∧ s'.w.fsm = .resp ∧ s'.inp.rspReady = true := by decide

theorem wit_WalkerHoldsForOtherAgents :
    let s := machine (sv32Walk .issue .load) Inputs.quiet
    let s' := machine (sv32Walk .wait .load) Inputs.quiet
    State.reset.inp.rst = false ∧ State.reset.inp.memRespValid = false ∧ State.reset.w.fsm = .idle ∧
    State.reset.inp.reqValid = false ∧ s.inp.rst = false ∧ s.inp.memRespValid = false ∧ s.w.fsm = .issue ∧
    s.inp.memReqReady = false ∧ s'.inp.rst = false ∧ s'.inp.memRespValid = false ∧ s'.w.fsm = .wait := by decide

/-- Reset together with a presented memory response and a presented request. -/
theorem wit_ResetOverridesEveryStep :
    (machine (sv39Walk .wait 1 1 4 .load) { answering 5 with rst := true, reqValid := true }).inp.rst = true := by decide

theorem wit_OutputsFollowTheRegisters :
    (machine (sv32Walk .issue .load) taking).w.fsm = .issue ∧ (responding Inputs.quiet).w.fsm = .resp ∧
    State.reset.w.fsm ≠ .issue ∧ State.reset.w.fsm ≠ .resp := by decide

theorem wit_StepRunsTheDecodedInstruction :
    let s := lastRead .load 0x20048CD7
    (presenting .rv64 0x8000000000080000 1 0 7).accepting ∧
    s.inp.rst = false ∧ s.w.fsm = .wait ∧ s.inp.memRespValid = true ∧ readerAnswer s = some 0x20048CD7 := by decide

theorem wit_AcceptStepRunsTheRootRegisterRow :
    let s := presenting .rv32 0x80080000 1 0 0xFFFFFFFF
    s.accepting ∧ s.requestInContract := by decide

/-- The same with a root register that ends the request. -/
theorem wit_AcceptStepRunsTheRootRegisterRow_error :
    let s := presenting .rv64 0x9000000000080000 1 2 0
    s.accepting ∧ s.requestInContract := by decide

/-- A root register placed beside a request that the parameter refuses: the next step runs the row. -/
theorem test_placed_root_register_is_run :
    (after ((refusing (presenting .rv64 0 0 2 0x1FFFFFFFF)).withFetchWord 32 0x80080000)).w.cMode = .sv32 ∧
    (after ((refusing (presenting .rv32 0 0 2 0)).withFetchWord 64 0x9000000000080000)).w.rKind = .configError := by decide +kernel

theorem wit_PlacedWordIsTheOneRun : 0xF < 2 ^ 4 ∧ 0xFFFFFFFF < 2 ^ 32 ∧ 0xF000000000000000 < 2 ^ 64 := by decide

/-- In the middle of a walk, at its last level. -/
theorem wit_lastRead_inv : (lastRead .load 0x20048CD7).inv := ⟨⟨by decide, by decide, by decide⟩, by decide, by decide⟩

theorem wit_StepKeepsInvariant :
    ∃ s t : State, s.inv ∧ step s = .next t ∧ t.w.fsm = .resp ∧ t.w.rKind = .ok :=
  ⟨lastRead .load 0x20048CD7, _, wit_lastRead_inv, rfl, by decide, by decide⟩

theorem wit_StepFromInvariantNeverFaults : ∃ s : State, s.inv ∧ s.w.walking :=
  ⟨lastRead .load 0x20048CD7, wit_lastRead_inv, by decide⟩

/-- Each of the three refusals is one of some step. -/
theorem wit_StepRefusesExactlyOutsideContract :
    step (machine Walker.reset (answering 0)) = .refused .memResponseOutsideWait ∧
    step (presenting .rv32 0 0 3 0x100000000) = .refused .rv32HighVaddr ∧
    step (refusing (presenting .rv64 0x9000000000080000 0 2 0)) = .refused .rsvdPrivRefused := ⟨rfl, rfl, rfl⟩

theorem wit_InstructionsChangeOnlyRegisters :
    ∃ (s t : State), exec (.pteLeafR 0x20048CD7) s = .next t ∧ t.w.fsm = .resp :=
  ⟨lastRead .load 0x20048CD7, _, rfl, by decide⟩

/-- A step that issues a read, and a step that does not, with another agent's store. -/
theorem wit_BlockOnlyReadsPteAddresses :
    (∃ s t, step s = .next t ∧ t.hist = [⟨0x80000004, 4, 1⟩]) ∧ (∃ s t, step s = .next t ∧ t.mem = [(5, 7)] ∧ t.hist = []) :=
  ⟨⟨machine (sv32Walk .issue .load) taking, _, rfl, by decide⟩,
   ⟨machine Walker.reset { Inputs.quiet with envStores := [(5, 7)] }, _, rfl, by decide, by decide⟩⟩

/-- Two stores to one address and an address not stored to. -/
theorem wit_StoresOfOtherAgentsReadBack :
    ∃ s t : State, Memory.wf s.mem ∧ step s = .next t ∧ s.inp.envStores = [(5, 7), (6, 1), (5, 9)] ∧
      (∀ c ∈ s.inp.envStores, c.1.toNat ≠ 4) ∧ t.mem = [(5, 9), (6, 1)] :=
  ⟨machine Walker.reset { Inputs.quiet with envStores := [(5, 7), (6, 1), (5, 9)] }, _, by decide, rfl, rfl, by simp [machine], by decide⟩

theorem wit_LatchesChangeOnlyAtAcceptance :
    (∃ s t : State, step s = .next t ∧ s.inp.rst = true) ∧ (∃ s t : State, step s = .next t ∧ s.accepting) ∧
    (∃ s t : State, step s = .next t ∧ s.inp.rst = false ∧ ¬ s.accepting ∧ t.w ≠ s.w) :=
  ⟨⟨machine (sv39Walk .wait 1 1 4 .load) { Inputs.quiet with rst := true }, _, rfl, rfl⟩,
   ⟨presenting .rv64 0x8000000000080000 1 0 7, _, rfl, by decide⟩, ⟨lastRead .load 0x20048CD7, _, rfl, rfl, by decide, by decide⟩⟩

theorem wit_BusyStepIgnoresRequestAndConfiguration : (lastRead .load 0x20048CD7).w.fsm ≠ .idle := by decide

/-- The clauses: leaving `IDLE`, coming back to it, a step from each other state, and a step that issues a read. -/
theorem wit_WalkerServesOneRequestAtATime :
    (∃ s t, step s = .next t ∧ s.inp.rst = false ∧ s.w.fsm = .idle ∧ t.w.fsm ≠ .idle) ∧
    (∃ s t, step s = .next t ∧ s.inp.rst = false ∧ s.w.fsm ≠ .idle ∧ t.w.fsm = .idle) ∧
    (∃ s t, step s = .next t ∧ s.inp.rst = false ∧ s.w.fsm = .issue ∧ t.hist ≠ s.hist) ∧
    (∃ s t, step s = .next t ∧ s.inp.rst = false ∧ s.w.fsm = .wait) ∧
    (∃ s t, step s = .next t ∧ s.inp.rst = false ∧ s.w.fsm = .resp) :=
  ⟨⟨presenting .rv64 0x8000000000080000 1 0 7, _, rfl, rfl, rfl, by decide⟩,
   ⟨responding { Inputs.quiet with rspReady := true }, _, rfl, rfl, by decide, by decide⟩,
   ⟨machine (sv32Walk .issue .load) taking, _, rfl, rfl, rfl, by decide⟩, ⟨lastRead .load 0x20048CD7, _, rfl, rfl, rfl⟩,
   ⟨responding Inputs.quiet, _, rfl, rfl, rfl⟩⟩

/-- The clauses on the sticky flag: a reset, a step that keeps the set flag, and a request that sets it. -/
theorem wit_FatalFlagIsSticky :
    (∃ s t, step s = .next t ∧ s.inp.rst = true) ∧ (∃ s t, step s = .next t ∧ s.inp.rst = false ∧ s.w.sFatalCfg = true) ∧
    (∃ s t, step s = .next t ∧ s.inp.rst = false ∧ s.w.sFatalCfg = false ∧ t.w.sFatalCfg = true ∧ s.accepting ∧ t.w.fsm = .resp ∧
      t.w.rKind = .configError) :=
  ⟨⟨machine Walker.reset { Inputs.quiet with rst := true }, _, rfl, rfl⟩,
   ⟨machine { Walker.reset with sFatalCfg := true } Inputs.quiet, _, rfl, rfl, rfl⟩,
   ⟨presenting .rv64 0x9000000000080000 1 3 7, _, rfl, rfl, rfl, by decide, by decide, by decide, by decide⟩⟩

/-- A step that ends with a fault for each purpose, and one that ends without. -/
theorem wit_EveryFaultCarriesTheCauseOfItsPurpose :
    (∀ p : Purpose, ∃ s t, step s = .next t ∧ s.w.fsm ≠ .resp ∧ t.w.fsm = .resp ∧ t.w.rKind = .fault ∧ t.w.qPurpose = p) ∧
    (∃ s t, step s = .next t ∧ s.w.fsm ≠ .resp ∧ t.w.fsm = .resp ∧ t.w.rKind ≠ .fault) :=
  ⟨fun p =>
      match p with
      | .fetch => ⟨lastRead .fetch 0, _, rfl, by decide, by decide, by decide, by decide⟩
      | .load => ⟨lastRead .load 0, _, rfl, by decide, by decide, by decide, by decide⟩
      | .storeamo => ⟨lastRead .storeamo 0, _, rfl, by decide, by decide, by decide, by decide⟩
      | .deleg => ⟨lastRead .deleg 0, _, rfl, by decide, by decide, by decide, by decide⟩,
   ⟨lastRead .load 0x20048CD7, _, rfl, by decide, by decide, by decide⟩⟩

theorem wit_WalkStepsBringTheResponseNearer :
    (∃ s t, step s = .next t ∧ s.inp.rst = false ∧ s.w.walking ∧ t.w ≠ s.w) ∧
    (∃ s t, step s = .next t ∧ s.accepting ∧ t.w.stepsLeft = 6) ∧ (∃ s t, step s = .next t ∧ s.accepting ∧ t.w.stepsLeft = 0) :=
  ⟨⟨firstRead .load 0x20000401, _, rfl, rfl, by decide, by decide⟩,
   ⟨presenting .rv64 0x8000000000080000 1 0 7, _, rfl, by decide, by decide⟩,
   ⟨presenting .rv64 0 1 0 7, _, rfl, by decide, by decide⟩⟩

/-- Each clause of R148: Bare, `M`, a walk that faults, a leaf with `A` = 0, a store to a leaf with `D` = 0, a reader of pointers
only, and a PTE with `V` = 0. -/
theorem wit_TranslateHasTheStatedProperties :
    refreshConfig .rv64 0 = some (.bare, 0) ∧ refreshConfig .rv64 0x8000000000080000 = some (.sv39, 0x80000) ∧
    walk .rv64 0x40005000 0x80000 imageA = .fault .memReadError 0 3 ∧
    walk .rv64 0 0 (fun _ _ => some 0x13) = .leaf 0x13 2 1 ∧ (0x13 : Word64).getLsbD 6 = false ∧
    walk .rv64 0x40212345 0x80000 imageA = .leaf 0x20080057 1 2 ∧ (0x20080057 : Word64).getLsbD 2 = true ∧
    (0x20080057 : Word64).getLsbD 7 = false ∧ (0x20000401 : Word64).extractLsb' 0 4 = 0x1#4 ∧ (0xE : Word64).getLsbD 0 = false := by
  decide

/-- The state a request leaves when its first read is answered with a failed read. -/
def servedWalk : State :=
  { presenting .rv64 0x8000000000080000 1 0 0x40001234 with sched := [taking, answeringError] }

/-- An accepted request whose walk ends at its first read, against a Memory Reader that can read nothing. -/
theorem wit_WalkerAgreesWithTranslate :
    ∃ t, servedWalk.accepting ∧ ServedBy (fun _ _ => none) servedWalk t ∧ t.w.fsm = .resp ∧ t.w.rKind = .fault :=
  ⟨after (after (after servedWalk)), by decide,
    .step (.step (.step .here ⟨by decide, by decide, by decide⟩ rfl) ⟨by decide, by decide, by decide⟩ rfl)
      ⟨by decide, by decide, by decide⟩ rfl,
    by decide, by decide⟩

theorem wit_PromptRequestIsServed :
    let s := { presenting .rv64 0x8000000000080000 1 0 0x40001234 with sched := promptReader 3 }
    s.accepting ∧ s.requestInContract ∧ s.inp.envStores = [] ∧ s.sched = promptReader 3 := by decide

end Sys2Proof.Tests
end

/-! The registers of the block: what each step writes of them and what it leaves (10_state.md). -/

namespace Sys2Proof.Machine

/-! ## Codes -/

/-- The purpose of a code has that code (R80). -/
@[simp] theorem code_purposeOfCode : ∀ c : BitVec 2, (Purpose.ofCode c).code = c := by decide

/-- The privilege level of a code has that code (R81). -/
@[simp] theorem code_privOfCode : ∀ c : BitVec 2, (Priv.ofCode c).code = c := by decide

/-! ## What the parts of a step write -/

/-- A failed read counts as an answered one and ends the request; it writes none of the latches, the trace and the sticky flag
(R169). -/
theorem receiveError_frame (w : Walker) :
    w.receiveError.fsm = .resp ∧ w.receiveError.wReads = w.wReads + 1 ∧
    w.receiveError.qPurpose = w.qPurpose ∧ w.receiveError.qPriv = w.qPriv ∧ w.receiveError.qVaddr = w.qVaddr ∧
    w.receiveError.cIsa = w.cIsa ∧ w.receiveError.cMode = w.cMode ∧ w.receiveError.cRoot = w.cRoot ∧
    w.receiveError.cSum = w.cSum ∧ w.receiveError.cMxr = w.cMxr ∧
    w.receiveError.tPte0 = w.tPte0 ∧ w.receiveError.tPte1 = w.tPte1 ∧ w.receiveError.tPte2 = w.tPte2 ∧
    w.receiveError.tValid = w.tValid ∧ w.receiveError.sFatalCfg = w.sFatalCfg := by
  simp [Walker.receiveError]

/-- After a received word the walk goes on in `ISSUE` or its response stands in `RESP` (R168). -/
theorem receiveAct_fsm (d pte : Word64) (w : Walker) : (receiveAct d pte w).fsm = .issue ∨ (receiveAct d pte w).fsm = .resp := by
  rcases receiveAct_cases d pte w with h | h | h | h <;> rw [h]
  · simp
  · simp
  · rcases leafStep_cases pte w with ⟨d, h, _⟩ | h <;> rw [h] <;> simp
  · unfold Walker.pointerStep
    split <;> simp

/-- The trace register of the level takes the recorded word, and the others stay (R32). -/
theorem recordPte_tPte (pte : Word64) (w : Walker) (l : Fin 3) :
    [(w.recordPte pte).tPte0, (w.recordPte pte).tPte1, (w.recordPte pte).tPte2][l.val]? =
      if w.wLevel.toNat = l.val then some pte else [w.tPte0, w.tPte1, w.tPte2][l.val]? := by
  have hlevel : ∀ k : BitVec 2, (w.wLevel = k ↔ w.wLevel.toNat = k.toNat) := fun k => BitVec.toNat_inj.symm
  match l with
  | 0 | 1 | 2 => simp [hlevel, apply_ite some]

/-- The valid bit of the level is set, and the others stay (R32). -/
theorem recordPte_tValid_getLsbD (pte : Word64) (w : Walker) (l : Fin 3) :
    (w.recordPte pte).tValid.getLsbD l.val = (decide (w.wLevel.toNat = l.val) || w.tValid.getLsbD l.val) := by
  have hbit : ∀ (v : BitVec 3) (level : BitVec 2) (l : Fin 3),
      (v ||| 1#3 <<< level.toNat).getLsbD l.val = (decide (level.toNat = l.val) || v.getLsbD l.val) := by decide
  exact hbit w.tValid w.wLevel l

/-! ## The accept step -/

/-- What follows the latch of a request is a configuration error, an identity or the start of a walk (R122, R141 to R143). -/
theorem refreshAndDispatch_cases (cfg : Option (Mode × Frame)) (w : Walker) :
    w.refreshAndDispatch cfg = w.endConfigError ∨
    ∃ mode root, w.refreshAndDispatch cfg = (w.latchConfig mode root).endOk w.qVaddr 0 0 ∨
      w.refreshAndDispatch cfg = (w.latchConfig mode root).startWalk := by
  match cfg with
  | none => exact .inl rfl
  | some (mode, root) =>
    refine .inr ⟨mode, root, ?_⟩
    rcases dispatch_cases (w.latchConfig mode root) with ⟨h, _⟩ | ⟨h, _⟩
    · exact .inl h
    · exact .inr h

/-- The accept step latches the request and the ISA width, SUM and MXR, and clears the count and the trace (R27, R28, R31, R32). -/
theorem acceptedWalker_frame (s : State) :
    (acceptedWalker s).qPurpose = Purpose.ofCode s.inp.reqPurpose ∧ (acceptedWalker s).qPriv = Priv.ofCode s.inp.reqPriv ∧
    (acceptedWalker s).qVaddr = s.inp.reqVaddr ∧ (acceptedWalker s).cIsa = s.inp.cfgIsa ∧
    (acceptedWalker s).cSum = s.inp.cfgSum ∧ (acceptedWalker s).cMxr = s.inp.cfgMxr ∧
    (acceptedWalker s).wReads = 0 ∧ (acceptedWalker s).tPte0 = 0 ∧ (acceptedWalker s).tPte1 = 0 ∧
    (acceptedWalker s).tPte2 = 0 ∧ (acceptedWalker s).tValid = 0 := by
  unfold acceptedWalker
  rcases refreshAndDispatch_cases (refreshConfig s.inp.cfgIsa s.inp.cfgSatp) (s.w.latchRequest (Purpose.ofCode s.inp.reqPurpose)
    (Priv.ofCode s.inp.reqPriv) s.inp.reqVaddr s.inp.cfgIsa s.inp.cfgSum s.inp.cfgMxr) with h | ⟨mode, root, h | h⟩ <;> simp [h]

/-- The accept step sets the sticky flag exactly when it ends the request with a configuration error (R35, R123). -/
theorem acceptedWalker_end (s : State) :
    ((acceptedWalker s).fsm = .resp ∧ (acceptedWalker s).rKind = .configError ∧ (acceptedWalker s).sFatalCfg = true) ∨
    ((acceptedWalker s).fsm = .resp ∧ (acceptedWalker s).rKind = .ok ∧ (acceptedWalker s).sFatalCfg = s.w.sFatalCfg) ∨
    ((acceptedWalker s).fsm = .issue ∧ (acceptedWalker s).sFatalCfg = s.w.sFatalCfg) := by
  unfold acceptedWalker
  rcases refreshAndDispatch_cases (refreshConfig s.inp.cfgIsa s.inp.cfgSatp) (s.w.latchRequest (Purpose.ofCode s.inp.reqPurpose)
    (Priv.ofCode s.inp.reqPriv) s.inp.reqVaddr s.inp.cfgIsa s.inp.cfgSum s.inp.cfgMxr) with h | ⟨mode, root, h | h⟩ <;> simp [h]

/-! ## A step by the state it starts from -/

section
variable {s t : State}

/-- A reset step writes every register (R250). -/
theorem step_of_reset (h : step s = .next t) (hr : s.inp.rst = true) : t.w = Walker.reset := by
  obtain ⟨-, -, h⟩ := step_walker h
  simp only [hr, State.accepting, reduceCtorEq, true_and, false_and, or_false] at h
  exact h.1

/-- From `IDLE` the walker holds, or accepts the request on its ports (R165, R166). -/
theorem step_of_idle (h : step s = .next t) (hr : s.inp.rst = false) (hf : s.w.fsm = .idle) :
    t.hist = s.hist ∧ ((s.inp.reqValid = false ∧ t.w = s.w) ∨ (s.accepting ∧ t.w = acceptedWalker s)) := by
  obtain ⟨-, -, h⟩ := step_walker h
  simp only [hr, hf, reduceCtorEq, true_and, false_and, and_false, or_false, false_or] at h
  rcases h with ⟨hw, hh, -, hv⟩ | ⟨ha, -, hh, hw⟩
  · exact ⟨hh, .inl ⟨hv, hw⟩⟩
  · exact ⟨hh, .inr ⟨ha, hw⟩⟩

/-- From `ISSUE` the walker holds, or the Memory Reader takes its read (R167, R175). -/
theorem step_of_issue (h : step s = .next t) (hr : s.inp.rst = false) (hf : s.w.fsm = .issue) :
    (t.w = s.w ∧ t.hist = s.hist) ∨ t.w = { s.w with fsm := .wait } := by
  obtain ⟨-, -, h⟩ := step_walker h
  simp only [hr, hf, State.accepting, reduceCtorEq, true_and, false_and, and_false, or_false, false_or] at h
  rcases h with ⟨hw, hh, -⟩ | ⟨-, -, -, hw, -⟩
  · exact .inl ⟨hw, hh⟩
  · exact .inr hw

/-- From `WAIT` the walker holds until its read is answered, with a failure or with a word (R168, R169, R175). -/
theorem step_of_wait (h : step s = .next t) (hr : s.inp.rst = false) (hf : s.w.fsm = .wait) :
    t.hist = s.hist ∧
    ((s.inp.memRespValid = false ∧ t.w = s.w) ∨
     (s.inp.memRespValid = true ∧ readerAnswer s = none ∧ t.w = s.w.receiveError) ∨
     (s.inp.memRespValid = true ∧ ∃ d, readerAnswer s = some d ∧
       t.w = receiveAct d (pteWord s.w.cIsa d) (s.w.recordPte (pteWord s.w.cIsa d)))) := by
  obtain ⟨-, -, h⟩ := step_walker h
  simp only [hr, hf, State.accepting, reduceCtorEq, true_and, false_and, and_false, and_true, or_false, false_or, or_true] at h
  rcases h with ⟨hw, hh, hm⟩ | ⟨hm, hn, hw, hh⟩ | ⟨hm, hh, -, hd⟩
  · exact ⟨hh, .inl ⟨hm, hw⟩⟩
  · exact ⟨hh, .inr (.inl ⟨hm, hn, hw⟩)⟩
  · exact ⟨hh, .inr (.inr ⟨hm, hd⟩)⟩

/-- From `RESP` the walker holds its response until it is taken (R172, R175). -/
theorem step_of_resp (h : step s = .next t) (hr : s.inp.rst = false) (hf : s.w.fsm = .resp) :
    t.hist = s.hist ∧ (t.w = s.w ∨ (s.inp.rspReady = true ∧ t.w = s.w.deliver)) := by
  obtain ⟨-, -, h⟩ := step_walker h
  simp only [hr, hf, State.accepting, reduceCtorEq, true_and, false_and, and_false, false_or] at h
  rcases h with ⟨hw, hh, -⟩ | ⟨hy, -, hw, hh⟩
  · exact ⟨hh, .inl hw⟩
  · exact ⟨hh, .inr ⟨hy, hw⟩⟩

/-- The accept step of a request in `IDLE` (R165). -/
theorem step_of_accepting (h : step s = .next t) (ha : s.accepting) : t.w = acceptedWalker s := by
  obtain ⟨hr, -, hf, hv⟩ := ha
  obtain ⟨-, ⟨hn, -⟩ | ⟨-, hw⟩⟩ := step_of_idle h hr hf
  · rw [hv] at hn
    contradiction
  · exact hw

/-- A step that is no reset, no acceptance and no memory response writes `fsm` at most (R166, R167, R172, R175). -/
theorem step_of_quiet (h : step s = .next t) (hr : s.inp.rst = false) (ha : ¬ s.accepting)
    (hm : ¬ (s.w.fsm = .wait ∧ s.inp.memRespValid = true)) : t.w = { s.w with fsm := t.w.fsm } := by
  have held : t.w = s.w → t.w = { s.w with fsm := t.w.fsm } := fun hw => by rw [hw]
  cases hf : s.w.fsm
  case idle =>
    obtain ⟨-, ⟨-, hw⟩ | ⟨ha', -⟩⟩ := step_of_idle h hr hf
    · exact held hw
    · exact absurd ha' ha
  case issue =>
    obtain ⟨hw, -⟩ | hw := step_of_issue h hr hf
    · exact held hw
    · rw [hw]
  case wait =>
    obtain ⟨-, ⟨-, hw⟩ | ⟨hv, -⟩ | ⟨hv, -⟩⟩ := step_of_wait h hr hf
    · exact held hw
    · exact absurd ⟨hf, hv⟩ hm
    · exact absurd ⟨hf, hv⟩ hm
  case resp =>
    obtain ⟨-, hw | ⟨-, hw⟩⟩ := step_of_resp h hr hf
    · exact held hw
    · exact hw ▸ rfl

/-- Without reset and acceptance the latch, the snapshot and the sticky flag stay (R27, R35). -/
theorem step_latches_frame (h : step s = .next t) (hr : s.inp.rst = false) (ha : ¬ s.accepting) :
    t.w.qPurpose = s.w.qPurpose ∧ t.w.qPriv = s.w.qPriv ∧ t.w.qVaddr = s.w.qVaddr ∧ t.w.cIsa = s.w.cIsa ∧
    t.w.cMode = s.w.cMode ∧ t.w.cRoot = s.w.cRoot ∧ t.w.cSum = s.w.cSum ∧ t.w.cMxr = s.w.cMxr ∧
    t.w.sFatalCfg = s.w.sFatalCfg := by
  by_cases hm : s.w.fsm = .wait ∧ s.inp.memRespValid = true
  · obtain ⟨-, ⟨hv, -⟩ | ⟨-, -, hw⟩ | ⟨-, d, -, hw⟩⟩ := step_of_wait h hr hm.1
    · simp [hm.2] at hv
    · simp [hw, receiveError_frame]
    · simp [hw, receiveAct_frame]
  · rw [step_of_quiet h hr ha hm]
    simp

end

/-! ## The sticky flag stops nothing -/

/-- The registers with a given value of the sticky flag (R35). -/
def Walker.withFatal (b : Bool) (w : Walker) : Walker := { w with sFatalCfg := b }

/-- The machine with a given value of the sticky flag (R35). -/
def State.withFatal (b : Bool) (s : State) : State := s.onWalker (Walker.withFatal b)

/-- No action depends on the sticky flag (D10). -/
theorem action_withFatal (b : Bool) (s : State) : action (s.withFatal b) = action s := rfl

/-- The leaf step neither reads nor writes the sticky flag. -/
theorem leafStep_withFatal (b : Bool) (pte : Word64) (w : Walker) :
    (w.withFatal b).leafStep pte = (w.leafStep pte).withFatal b := by
  cases hc : leafCheck w.qPurpose w.qPriv w.cSum w.cMxr w.cIsa pte w.wLevel.toNat <;>
    simp only [Walker.leafStep, Walker.withFatal, hc] <;> rfl

/-- The pointer step neither reads nor writes the sticky flag. -/
theorem pointerStep_withFatal (b : Bool) (pte : Word64) (w : Walker) :
    (w.withFatal b).pointerStep pte = (w.pointerStep pte).withFatal b :=
  (apply_ite (Walker.withFatal b) (w.wLevel = 0) (w.endFault .noLeaf 0) (w.descend pte)).symm

/-- What follows a recorded word neither reads nor writes the sticky flag. -/
theorem receiveAct_withFatal (b : Bool) (d pte : Word64) (w : Walker) :
    receiveAct d pte (w.withFatal b) = (receiveAct d pte w).withFatal b := by
  unfold receiveAct
  split
  · rfl
  · split
    · rfl
    · split
      · exact leafStep_withFatal b pte w
      · exact pointerStep_withFatal b pte w

/-- What follows the latch of a request does not read the sticky flag. -/
theorem refreshAndDispatch_withFatal (b : Bool) (cfg : Option (Mode × Frame)) (w : Walker) :
    ∃ b', (w.withFatal b).refreshAndDispatch cfg = (w.refreshAndDispatch cfg).withFatal b' := by
  match cfg with
  | none => exact ⟨true, rfl⟩
  | some (mode, root) =>
    exact ⟨b, (apply_ite (Walker.withFatal b) ((excludedFromTranslation w.qPriv || mode == .bare) = true)
      ((w.latchConfig mode root).endOk w.qVaddr 0 0) (w.latchConfig mode root).startWalk).symm⟩

section
variable {s t : State}

/-- A presented request is accepted or ignored alike whatever the sticky flag holds (D10). -/
theorem acceptRequest_withFatal (b : Bool) {purpose : Purpose} {priv : Priv} {vaddr : Word64}
    (h : acceptRequest purpose priv vaddr s = .next t) :
    ∃ b', acceptRequest purpose priv vaddr (s.withFatal b) = .next (t.withFatal b') := by
  obtain ⟨hf, rfl⟩ | ⟨hf, hv, hr, rfl⟩ := acceptRequest_next h
  · exact ⟨b, if_pos hf⟩
  · obtain ⟨b', hb⟩ := refreshAndDispatch_withFatal b (refreshConfig s.inp.cfgIsa s.inp.cfgSatp)
      (s.w.latchRequest purpose priv vaddr s.inp.cfgIsa s.inp.cfgSum s.inp.cfgMxr)
    refine ⟨b', (acceptRequest_idle (s := s.withFatal b) hf hv hr).trans ?_⟩
    exact congrArg (fun w => Host.Outcome.next { s with w := w }) hb

/-- A received word is taken alike whatever the sticky flag holds (D10). -/
theorem receivePte_withFatal (b : Bool) {d : Word64} (h : receivePte d (receiveAct d) s = .next t) :
    receivePte d (receiveAct d) (s.withFatal b) = .next (t.withFatal b) := by
  obtain ⟨hf, hl, rfl⟩ := receivePte_next h
  refine (receivePte_wait (s := s.withFatal b) hf hl).trans ?_
  exact congrArg (fun w => Host.Outcome.next { s with w := w })
    (receiveAct_withFatal b d (pteWord s.w.cIsa d) (s.w.recordPte (pteWord s.w.cIsa d)))

/-- The Memory Reader takes a read alike whatever the sticky flag holds (D10). -/
theorem issueStep_withFatal (b : Bool) (h : issueStep s = .next t) : issueStep (s.withFatal b) = .next (t.withFatal b) := by
  obtain ⟨hl, rfl⟩ := issueStep_next h
  exact if_neg (Nat.not_le.mpr hl)

/-- A step that runs an instruction runs the request on the ports or a received word (R165, R168). -/
theorem action_eq_run {i : Instr} (h : action s = .run i) :
    i = requestInstr (Purpose.ofCode s.inp.reqPurpose) (Priv.ofCode s.inp.reqPriv) s.inp.reqVaddr ∨
    ∃ d, i = decode (.pte d) := by
  rw [← decode_requestWord]
  rcases action_cases s with ⟨-, ha⟩ | ⟨-, -, -, ha⟩ | ⟨-, -, -, ha⟩ | ⟨-, -, -, ha⟩ | ⟨-, -, -, ha⟩ |
    ⟨-, -, -, ⟨-, ha⟩ | ⟨d, -, ha⟩⟩ | ⟨-, -, -, ha⟩ <;>
    simp only [ha, ite_eq_iff, reduceCtorEq, and_false, or_false, Action.run.injEq] at h
  · exact .inl h.2.symm
  · exact .inr ⟨d, h.symm⟩

/-- A run instruction answers alike whatever the sticky flag holds (D10). -/
theorem exec_withFatal (b : Bool) {i : Instr} (ha : action s = .run i) (h : exec i s = .next t) :
    ∃ b', exec i (s.withFatal b) = .next (t.withFatal b') := by
  obtain rfl | ⟨d, rfl⟩ := action_eq_run ha
  · rw [exec_requestInstr] at h ⊢
    exact acceptRequest_withFatal b h
  · rw [exec_decode_pte] at h ⊢
    exact ⟨b, receivePte_withFatal b h⟩

/-- A step answers the same state, but for the sticky flag, whatever the flag holds (D10). -/
theorem step_withFatal (b : Bool) (h : step s = .next t) : ∃ b', step (s.withFatal b) = .next (t.withFatal b') := by
  unfold step
  rw [action_withFatal]
  obtain ⟨ha, rfl⟩ | ⟨ha, rfl⟩ | ⟨i, u, ha, hu, rfl⟩ | ⟨u, ha, hu, rfl⟩ | ⟨ha, rfl⟩ | ⟨ha, rfl⟩ := step_next h <;>
    simp only [ha]
  · exact ⟨false, rfl⟩
  · exact ⟨b, rfl⟩
  · obtain ⟨b', hb⟩ := exec_withFatal b ha hu
    exact ⟨b', by rw [hb]; rfl⟩
  · exact ⟨b, by rw [issueStep_withFatal b hu]; rfl⟩
  · exact ⟨b, rfl⟩
  · exact ⟨b, rfl⟩

end

/-! ## The obligations -/

/-- Settles O21, by the kind of the step: a reset, an acceptance, a memory response, or none of them. -/
theorem responsesAreCountedAndTraced : Obligations.ResponsesAreCountedAndTraced := by
  unfold Obligations.ResponsesAreCountedAndTraced
  refine ⟨fun data => ⟨rfl, rfl⟩, fun s t h => ⟨?_, fun hr hf hv => ?_, fun hr ha hm => ?_⟩⟩
  · rintro (hr | ha)
    · simp [step_of_reset h hr, Walker.reset]
    · simp [step_of_accepting h ha, acceptedWalker_frame]
  · obtain ⟨-, ⟨hn, -⟩ | ⟨-, hn, hw⟩ | ⟨-, d, hd, hw⟩⟩ := step_of_wait h hr hf
    · simp [hv] at hn
    · simp [hn, hw, receiveError_frame]
    · refine ⟨by simp [hw, receiveAct_frame], fun data hdata l => ?_, fun hn => by simp [hd] at hn⟩
      obtain rfl : d = data := by simpa [hd] using hdata
      simp only [hw, receiveAct_frame]
      exact ⟨recordPte_tPte _ s.w l, recordPte_tValid_getLsbD _ s.w l⟩
  · rw [step_of_quiet h hr ha hm]
    simp

/-- Settles O46: the accept step writes the latch and the snapshot, and `step_latches_frame` says that no other step does. -/
theorem latchesChangeOnlyAtAcceptance : Obligations.LatchesChangeOnlyAtAcceptance := by
  unfold Obligations.LatchesChangeOnlyAtAcceptance
  refine fun s t h => ⟨fun hr => ?_, fun ha => ?_, fun hr ha => ?_⟩
  · rw [step_of_reset h hr]
    decide
  · simp [step_of_accepting h ha, acceptedWalker_frame]
  · simp [step_latches_frame h hr ha]

/-- Settles O48, by the state the step starts from. -/
theorem walkerServesOneRequestAtATime : Obligations.WalkerServesOneRequestAtATime := by
  unfold Obligations.WalkerServesOneRequestAtATime
  intro s t h hr
  cases hf : s.w.fsm
  case idle =>
    obtain ⟨hh, ⟨-, hw⟩ | ⟨ha, hw⟩⟩ := step_of_idle h hr hf
    · simp [hh, hw, hf]
    · have hfsm : (acceptedWalker s).fsm = .issue ∨ (acceptedWalker s).fsm = .resp := by
        rcases acceptedWalker_end s with ⟨hf, -⟩ | ⟨hf, -⟩ | ⟨hf, -⟩ <;> simp [hf]
      simp [hh, hw, hf, hr, ha.2.2.2, reqReady, hfsm]
  case issue =>
    obtain ⟨hw, hh⟩ | hw := step_of_issue h hr hf
    · simp [hw, hh, hf]
    · simp [hw]
  case wait =>
    obtain ⟨hh, ⟨hv, hw⟩ | ⟨hv, -, hw⟩ | ⟨hv, d, -, hw⟩⟩ := step_of_wait h hr hf
    · simp [hh, hv, hw, hf]
    · simp [hh, hv, hw, receiveError_frame]
    · have hfsm := receiveAct_fsm d (pteWord s.w.cIsa d) (s.w.recordPte (pteWord s.w.cIsa d))
      rw [← hw] at hfsm
      rcases hfsm with ht | ht <;> simp [hh, hv, ht]
  case resp =>
    obtain ⟨hh, hw | ⟨hy, hw⟩⟩ := step_of_resp h hr hf
    · simp [hh, hw, hf]
    · simp [hh, hy, hw]

/-- Settles O49: the flag moves in the accept step only (`acceptedWalker_end`, `step_latches_frame`), and a step runs alike with
either value of it (`step_withFatal`). -/
theorem fatalFlagIsSticky : Obligations.FatalFlagIsSticky := by
  unfold Obligations.FatalFlagIsSticky
  refine fun s t h => ⟨fun hr => ?_, fun hr hs => ?_, fun hr hs ht => ?_, fun hr ha hf hk => ?_, ?_⟩
  · simp [step_of_reset h hr, Walker.reset]
  · by_cases ha : s.accepting
    · rw [step_of_accepting h ha]
      rcases acceptedWalker_end s with ⟨-, -, he⟩ | ⟨-, -, he⟩ | ⟨-, he⟩ <;> simp [he, hs]
    · simp [step_latches_frame h hr ha, hs]
  · by_cases ha : s.accepting
    · rw [step_of_accepting h ha] at ht ⊢
      rcases acceptedWalker_end s with ⟨hf, hk, -⟩ | ⟨-, -, he⟩ | ⟨-, he⟩
      · exact ⟨ha, hf, hk⟩
      · simp [he, hs] at ht
      · simp [he, hs] at ht
    · simp [step_latches_frame h hr ha, hs] at ht
  · rw [step_of_accepting h ha] at hf hk ⊢
    rcases acceptedWalker_end s with ⟨-, -, he⟩ | ⟨-, hok, -⟩ | ⟨hi, -⟩
    · exact he
    · simp [hk] at hok
    · simp [hf] at hi
  · obtain ⟨b', hu⟩ := step_withFatal (!s.w.sFatalCfg) h
    exact ⟨t.withFatal b', hu, rfl, rfl, rfl⟩

/-- Settles O32: in `RESP` the action is to hold or to deliver. -/
theorem responseIsHeldUntilTaken : Obligations.ResponseIsHeldUntilTaken := by
  unfold Obligations.ResponseIsHeldUntilTaken
  intro s hr hm hf
  have ha : action s = if s.inp.rspReady then .deliver else .hold := by simp [action, hr, hm, hf]
  constructor <;> intro hy
  · simp [step, ha, hy]
  · simp [step, ha, hy, deliverStep, State.onWalker, Walker.deliver]

/-- Settles O35, by reading the reset values of R39. -/
theorem resetValuesOfEveryRegister : Obligations.ResetValuesOfEveryRegister := by
  unfold Obligations.ResetValuesOfEveryRegister
  decide

end Sys2Proof.Machine

/-! The command word: the operation and the privilege level that its two fields select (30_encoding.md). -/

namespace Sys2Proof

/-- A purpose is read back from its code (R80). -/
@[simp] theorem purposeOfCode_code (purpose : Purpose) : Purpose.ofCode purpose.code = purpose := by
  cases purpose <;> rfl

/-- A command word with a purpose's code in bits 1:0 is that purpose's operation, at the privilege level of bits 3:2 (R88). -/
theorem decode_req_of_purpose (purpose : Purpose) {cmd : BitVec 4} (va : Word64) (h : cmd.extractLsb' 0 2 = purpose.code) :
    decode (.req cmd va) = requestInstr purpose (Priv.ofCode (cmd.extractLsb' 2 2)) va := by
  simp only [decode, decodeReq, h, purposeOfCode_code]

/-- Settles O4: each value of bits 1:0 is the code of a purpose, and `decode_req_of_purpose` gives the operation of each. -/
theorem commandWordSelectsOperation : Obligations.CommandWordSelectsOperation := by
  unfold Obligations.CommandWordSelectsOperation
  refine ⟨fun cmd va => ⟨?_, ?_, ?_, ?_⟩, rfl, rfl, rfl, rfl⟩
  · exact decode_req_of_purpose .fetch va
  · exact decode_req_of_purpose .load va
  · exact decode_req_of_purpose .storeamo va
  · exact decode_req_of_purpose .deleg va

end Sys2Proof

/-! The PPN side of the PTE parser: the segments of a PTE put together are one field of the PTE (40_decompose.md). -/

namespace Sys2Proof.Machine

/-- Segments 31:20 and 19:10 stand next to each other (R105, R107). -/
theorem ppnSv32_eq_field (pte : Word64) : ppn1Sv32 pte ++ ppn0Sv32 pte = pte.extractLsb' 10 22 :=
  BitVec.extractLsb'_append_extractLsb'_eq_extractLsb' (by decide)

/-- Segments 53:28, 27:19 and 18:10 stand next to each other (R106, R107). -/
theorem ppnSv39_eq_field (pte : Word64) : ppn2Sv39 pte ++ ppn1Sv39 pte ++ ppn0Sv39 pte = pte.extractLsb' 10 44 := by
  have upper : ppn2Sv39 pte ++ ppn1Sv39 pte = pte.extractLsb' 19 35 :=
    BitVec.extractLsb'_append_extractLsb'_eq_extractLsb' (by decide)
  rw [upper]
  exact BitVec.extractLsb'_append_extractLsb'_eq_extractLsb' (by decide)

theorem ptePpn_rv32 (pte : Word64) : ptePpn .rv32 pte = (pte.extractLsb' 10 22).setWidth 44 :=
  congrArg (BitVec.setWidth 44) (ppnSv32_eq_field pte)

theorem ptePpn_rv64 (pte : Word64) : ptePpn .rv64 pte = pte.extractLsb' 10 44 :=
  ppnSv39_eq_field pte

/-- An Sv32 frame number is a 22-bit field, and zero-extending it to 44 bits keeps its value. -/
theorem ptePpn_rv32_lt (pte : Word64) : (ptePpn .rv32 pte).toNat < 2 ^ 22 := by
  rw [ptePpn_rv32, BitVec.toNat_setWidth_of_le (by decide)]
  exact BitVec.isLt _

/-- Settles O7: at both widths the PPN segments put together are one field of the PTE. -/
theorem frameNumberIsReassembledPpn : Obligations.FrameNumberIsReassembledPpn := by
  unfold Obligations.FrameNumberIsReassembledPpn
  exact fun pte => ⟨ptePpn_rv32 pte, ppnSv32_eq_field pte, ptePpn_rv64 pte, ppnSv39_eq_field pte, ptePpn_rv32_lt pte⟩

end Sys2Proof.Machine

/-! The identity translation: the requests that end in their accept step with their own address (42_translate.md). -/

namespace Sys2Proof.Machine

/-- Each listed operation is the instruction of its purpose (R88). -/
theorem eq_requestInstr_of_mem_requestOps {i : Instr} {purpose : Purpose} {priv : Priv} {va : Word64}
    (h : (i, purpose) ∈ requestOps priv va) : i = requestInstr purpose priv va := by
  simp only [List.mem_cons, Prod.mk.injEq, List.not_mem_nil, or_false] at h
  rcases h with ⟨rfl, rfl⟩ | ⟨rfl, rfl⟩ | ⟨rfl, rfl⟩ | ⟨rfl, rfl⟩ <;> rfl

/-- A `TRANSLATE` row inside the contract runs the accept step on an idle walker: latch, refresh, dispatch (R165). -/
theorem exec_requestOp_idle {i : Instr} {purpose : Purpose} {priv : Priv} {va : Word64} {s : State}
    (hi : (i, purpose) ∈ requestOps priv va) (hf : s.w.fsm = .idle) (hv : s.inp.cfgIsa = .rv32 → va.extractLsb' 32 32 = 0)
    (hr : priv = .rsvd → s.rsvdPriv = .identity) :
    exec i s = .next (s.onWalker fun w =>
      (w.latchRequest purpose priv va s.inp.cfgIsa s.inp.cfgSum s.inp.cfgMxr).refreshAndDispatch
        (refreshConfig s.inp.cfgIsa s.inp.cfgSatp)) := by
  rw [eq_requestInstr_of_mem_requestOps hi, exec_requestInstr, acceptRequest_idle hf hv hr]

/-- A request at an excluded level, or under Bare, is answered with its own address once its configuration is latched
(R141, R142). -/
theorem refreshAndDispatch_eq_endOk (w : Walker) {mode : Mode} (root : Frame)
    (h : excludedFromTranslation w.qPriv = true ∨ mode = .bare) :
    w.refreshAndDispatch (some (mode, root)) = (w.latchConfig mode root).endOk w.qVaddr 0 0 := by
  obtain ⟨hd, -⟩ | ⟨-, hp, hm⟩ := dispatch_cases (w.latchConfig mode root)
  · exact hd
  · exact absurd h (by simpa using ⟨hp, hm⟩)

/-- A `TRANSLATE` row answers with the request's own address in its accept step when nothing is left to translate: at an excluded
level, or under Bare (R141, R142). -/
theorem exec_requestOp_identity {i : Instr} {purpose : Purpose} {priv : Priv} {va : Word64} {mode : Mode} {root : Frame} {s : State}
    (hi : (i, purpose) ∈ requestOps priv va) (hf : s.w.fsm = .idle) (hv : s.inp.cfgIsa = .rv32 → va.extractLsb' 32 32 = 0)
    (hr : priv = .rsvd → s.rsvdPriv = .identity) (hc : refreshConfig s.inp.cfgIsa s.inp.cfgSatp = some (mode, root))
    (h : excludedFromTranslation priv = true ∨ mode = .bare) :
    exec i s = .next (s.onWalker fun w =>
      ((w.latchRequest purpose priv va s.inp.cfgIsa s.inp.cfgSum s.inp.cfgMxr).latchConfig mode root).endOk va 0 0) := by
  have hw := refreshAndDispatch_eq_endOk (s.w.latchRequest purpose priv va s.inp.cfgIsa s.inp.cfgSum s.inp.cfgMxr) root h
  rw [exec_requestOp_idle hi hf hv hr, hc]
  simp only [State.onWalker, hw, latchRequest_qVaddr]

/-- Settles O12: `exec_requestOp_identity` under Bare. -/
theorem bareRequestsAreIdentity : Obligations.BareRequestsAreIdentity := by
  unfold Obligations.BareRequestsAreIdentity
  intro i purpose priv va root s hi hf hv hp hc
  have hr : priv = .rsvd → s.rsvdPriv = .identity := by
    rintro rfl
    simp at hp
  exact exec_requestOp_identity hi hf hv hr hc (.inr rfl)

/-- Settles O13: `exec_requestOp_identity` at an excluded level; without a decoded root register the refresh ends the request. -/
theorem excludedLevelsAreIdentity : Obligations.ExcludedLevelsAreIdentity := by
  unfold Obligations.ExcludedLevelsAreIdentity
  intro i purpose priv va s hi hf hv hp
  obtain ⟨hx, hr⟩ : excludedFromTranslation priv = true ∧ (priv = .rsvd → s.rsvdPriv = .identity) := by
    obtain rfl | ⟨rfl, hs⟩ := hp
    · exact ⟨rfl, nofun⟩
    · exact ⟨rfl, fun _ => hs⟩
  refine ⟨fun mode root hc => exec_requestOp_identity hi hf hv hr hc (.inl hx), fun hc => ?_⟩
  rw [exec_requestOp_idle hi hf hv hr, hc]
  exact ⟨_, rfl, rfl, rfl⟩

end Sys2Proof.Machine

/-! The steps of a walk, forwards: what a step answers where the state and the inputs say which rule it follows (43_walk.md
section 2). -/

namespace Sys2Proof.Machine

/-! ## The ISA width -/

/-- The bytes of a PTE, by the ISA width (R7). -/
theorem ptesize_eq_ite (isa : Isa) : ptesize isa = if isa = .rv32 then 4 else 8 := by
  cases isa <;> rfl

/-- The size code of a PTE read, by the ISA width (R87). -/
theorem isaCode_eq_ite (isa : Isa) : isa.code = if isa = .rv32 then 0 else 1 := by
  cases isa <;> rfl

/-- Every ISA width has a level 0 (R7). -/
theorem levels_pos (isa : Isa) : 0 < levels isa := by
  cases isa <;> decide

/-! ## Steps that run no row -/

section
variable {s : State} (hrst : s.inp.rst = false)
include hrst

/-- Without a request, a taker or an answer, the walker's step is to hold (R166, R175). -/
theorem action_eq_hold (hm : s.inp.memRespValid = false)
    (hf : (s.w.fsm = .idle ∧ s.inp.reqValid = false) ∨ (s.w.fsm = .issue ∧ s.inp.memReqReady = false) ∨ s.w.fsm = .wait) :
    action s = .hold := by
  rcases hf with ⟨hf, hv⟩ | ⟨hf, hy⟩ | hf
  · simp [action, hrst, hm, hf, hv]
  · simp [action, hrst, hm, hf, hy]
  · simp [action, hrst, hm, hf]

/-- A read that the Memory Reader takes is recorded, and the walker waits for its answer (R167). -/
theorem step_issue_taken (hm : s.inp.memRespValid = false) (hf : s.w.fsm = .issue) (hy : s.inp.memReqReady = true)
    (hl : s.w.wLevel.toNat < levels s.w.cIsa) :
    step s = .next (tick { s with
      w := { s.w with fsm := .wait }
      hist := ⟨s.w.readAddr, ptesize s.w.cIsa, s.w.wLevel⟩ :: s.hist }) := by
  have ha : action s = .issue := by simp [action, hrst, hm, hf, hy]
  have hi : issueStep s = .next _ := if_neg (Nat.not_le.mpr hl)
  simp only [step, ha, hi, thenTick_next]

/-- A failed read ends the request (R169). -/
theorem step_wait_readError (hf : s.w.fsm = .wait) (hm : s.inp.memRespValid = true) (hn : readerAnswer s = none) :
    step s = .next (tick (s.onWalker Walker.receiveError)) := by
  have ha : action s = .readError := by simp [action, hrst, hf, hm, hn]
  simp only [step, ha, readErrorStep]

/-! ## The receive step -/

/-- A received word, cut to the ISA width, is recorded, and its class says what follows (R168). -/
theorem step_wait_receive {data : Word64} (hf : s.w.fsm = .wait) (hm : s.inp.memRespValid = true)
    (hd : readerAnswer s = some data) (hl : s.w.wLevel.toNat < levels s.w.cIsa) :
    step s = .next (tick (s.onWalker fun w => receiveAct data (pteWord w.cIsa data) (w.recordPte (pteWord w.cIsa data)))) := by
  have ha : action s = .run (decode (.pte data)) := by simp [action, hrst, hf, hm, hd]
  simp only [step, ha, exec_decode_pte, receivePte_wait hf hl, thenTick_next]

end

/-- The class of a received word stands in bits that the cut to the ISA width keeps (R76, R109). -/
theorem receiveAct_pteWord (isa : Isa) (data : Word64) : receiveAct (pteWord isa data) = receiveAct data := by
  simp (disch := decide) only [receiveAct, pteWord_getLsbD]

/-- What follows a recorded word, in the order of R168. -/
theorem receiveAct_eq_ite (d pte : Word64) (w : Walker) :
    receiveAct d pte w =
      if d.getLsbD 0 = false then w.endFault .pteInvalid w.wLevel
      else if d.getLsbD 2 = true ∧ d.getLsbD 1 = false then w.endFault .pteReservedWnr w.wLevel
      else if d.getLsbD 1 = true ∨ d.getLsbD 3 = true then w.leafStep pte
      else w.pointerStep pte := by
  simp only [receiveAct, ite_apply]

/-- A pointer PTE at level 0 ends the request (R171). -/
theorem pointerStep_level_zero {w : Walker} (pte : Word64) (h : w.wLevel = 0) : w.pointerStep pte = w.endFault .noLeaf 0 :=
  if_pos h

/-- `PTE.POINTER` on a waiting walker, at a level of its ISA width: the word is recorded, then the pointer step (R168). -/
theorem exec_ptePointer_wait {s : State} (data : Word64) (hf : s.w.fsm = .wait) (hl : s.w.wLevel.toNat < levels s.w.cIsa) :
    exec (.ptePointer data) s =
      .next (s.onWalker fun w => (w.recordPte (pteWord w.cIsa data)).pointerStep (pteWord w.cIsa data)) :=
  receivePte_wait hf hl

/-! ## The obligations -/

/-- Settles O20: `receiveAct_eq_ite` on the word as it is recorded; a pointer ends the walk at level 0 and goes down elsewhere. -/
theorem receiveStepSortsThePte : Obligations.ReceiveStepSortsThePte := by
  unfold Obligations.ReceiveStepSortsThePte
  refine ⟨fun data => ⟨rfl, rfl⟩, fun s data hrst hf hm hd hl => ?_⟩
  rw [step_wait_receive hrst hf hm hd hl, ← receiveAct_pteWord s.w.cIsa data]
  simp only [State.onWalker, receiveAct_eq_ite]
  rfl

/-- Settles O18: `step_issue_taken`, with the size of the read and its code written out. -/
theorem issueStepTakesTheRead : Obligations.IssueStepTakesTheRead := by
  unfold Obligations.IssueStepTakesTheRead
  intro s hrst hm hf hy hl
  rw [← ptesize_eq_ite, ← isaCode_eq_ite]
  exact ⟨step_issue_taken hrst hm hf hy hl, if_pos (by simp [memReqValid, hf])⟩

/-- Settles O19, by `step_wait_readError`. -/
theorem failedReadEndsWithFault : Obligations.FailedReadEndsWithFault := by
  unfold Obligations.FailedReadEndsWithFault
  exact fun s hrst hf hm hn => step_wait_readError hrst hf hm hn

/-- Settles O24: at level 0 the receive step of a pointer ends the request. -/
theorem pointerPteAtLevelZeroFaults : Obligations.PointerPteAtLevelZeroFaults := by
  unfold Obligations.PointerPteAtLevelZeroFaults
  intro s data hf h0
  have hl : s.w.wLevel.toNat < levels s.w.cIsa := by simpa [h0] using levels_pos s.w.cIsa
  have hp := pointerStep_level_zero (w := s.w.recordPte (pteWord s.w.cIsa data)) (pteWord s.w.cIsa data) h0
  rw [exec_ptePointer_wait data hf hl]
  simp only [State.onWalker, hp, Walker.endFault, recordPte_qPurpose]

/-- Settles O33: the step that holds changes nothing before the inputs pass. -/
theorem walkerHoldsForOtherAgents : Obligations.WalkerHoldsForOtherAgents := by
  unfold Obligations.WalkerHoldsForOtherAgents
  intro s hrst hm hf
  simp only [step, action_eq_hold hrst hm hf]

end Sys2Proof.Machine

/-! A leaf PTE: its checks in their order, and the end of the request it answers (44_leaf.md). -/

namespace Sys2Proof.Machine

/-! ## The leaf checks -/

section
variable {purpose : Purpose} {priv : Priv} {sum mxr : Bool} {isa : Isa} {pte : Word64} {level : Nat}

/-- R183: the accessed check comes first. -/
theorem leafCheck_accessedClear (hA : pte.getLsbD 6 = false) :
    leafCheck purpose priv sum mxr isa pte level = some .accessedClear :=
  if_pos (by rw [flagA, hA]; rfl)

/-- R184: the user check fails at `U` for a page without `U`. -/
theorem userDenied_iff : (priv == .u && !flagU pte) = true ↔ priv = .u ∧ pte.getLsbD 4 = false := by
  simp only [flagU, Bool.and_eq_true, beq_iff_eq, Bool.not_eq_true']

/-- R184: the user check comes second, at `U` only. -/
theorem leafCheck_userDenied (hA : pte.getLsbD 6 = true) (hp : priv = .u) (hU : pte.getLsbD 4 = false) :
    leafCheck purpose priv sum mxr isa pte level = some .userDenied := by
  unfold leafCheck
  rw [if_neg (by simp [flagA, hA]), if_pos (userDenied_iff.mpr ⟨hp, hU⟩)]

/-- Behind the first two checks stand the check of the purpose and then the superpage check (R182). -/
theorem leafCheck_eq_or (hr : pte.getLsbD 6 = true ∧ (priv = .u → pte.getLsbD 4 = true)) :
    leafCheck purpose priv sum mxr isa pte level =
      (purposeCheck purpose priv sum mxr pte).or
        (if misalignedSuperpage isa pte level then some .misalignedSuperpage else none) := by
  obtain ⟨hA, hU⟩ := hr
  have hu : ¬ (priv = .u ∧ pte.getLsbD 4 = false) := fun ⟨hp, hn⟩ => ne_true_of_eq_false hn (hU hp)
  unfold leafCheck
  rw [if_neg (by simp [flagA, hA]), if_neg (mt userDenied_iff.mp hu)]
  cases purposeCheck purpose priv sum mxr pte <;> rfl

/-- A failed check of the purpose is the answer, whatever the superpage check says. -/
theorem leafCheck_of_purposeCheck_some {d : Diag} (hr : pte.getLsbD 6 = true ∧ (priv = .u → pte.getLsbD 4 = true))
    (h : purposeCheck purpose priv sum mxr pte = some d) : leafCheck purpose priv sum mxr isa pte level = some d := by
  rw [leafCheck_eq_or hr, h, Option.some_or]

/-- When the check of the purpose passes, the superpage check answers. -/
theorem leafCheck_of_purposeCheck_none (hr : pte.getLsbD 6 = true ∧ (priv = .u → pte.getLsbD 4 = true))
    (h : purposeCheck purpose priv sum mxr pte = none) :
    leafCheck purpose priv sum mxr isa pte level =
      if misalignedSuperpage isa pte level then some .misalignedSuperpage else none := by
  rw [leafCheck_eq_or hr, h, Option.none_or]

end

/-! ## The check of each purpose -/

section
variable {priv : Priv} {sum mxr : Bool} {pte : Word64}

/-- R186: the SUM check fails for a user page at `S` with SUM 0. -/
theorem sumDenies_iff : sumDenies priv sum pte = true ↔ sum = false ∧ priv = .s ∧ pte.getLsbD 4 = true := by
  simp [sumDenies, flagU, and_assoc]

/-- R187: the readable check fails without `R` and without `X` under MXR. -/
theorem readDenied_iff :
    (!flagR pte && !(mxr && flagX pte)) = true ↔ ¬ (pte.getLsbD 1 = true ∨ (mxr = true ∧ pte.getLsbD 3 = true)) := by
  simp only [flagR, flagX, ← Bool.not_or, Bool.not_eq_true', ← Bool.not_eq_true, Bool.or_eq_true, Bool.and_eq_true]

/-- R185: a fetch, delegated or not, asks for `X` only. -/
theorem purposeCheck_fetches {purpose : Purpose} (h : purpose = .fetch ∨ purpose = .deleg) :
    purposeCheck purpose priv sum mxr pte = if pte.getLsbD 3 = true then none else some .execDenied := by
  obtain rfl | rfl := h <;> rfl

/-- R186, R187: a load has the SUM check and then the readable check. -/
theorem purposeCheck_load :
    purposeCheck .load priv sum mxr pte =
      if sum = false ∧ priv = .s ∧ pte.getLsbD 4 = true then some .sumDenied
      else if ¬ (pte.getLsbD 1 = true ∨ (mxr = true ∧ pte.getLsbD 3 = true)) then some .readDenied
      else none := by
  simp only [purposeCheck, sumDenies_iff, readDenied_iff]

/-- R186, R188: a store has the SUM check, the writable check and the dirty check. -/
theorem purposeCheck_storeamo :
    purposeCheck .storeamo priv sum mxr pte =
      if sum = false ∧ priv = .s ∧ pte.getLsbD 4 = true then some .sumDenied
      else if pte.getLsbD 2 = false then some .writeDenied
      else if pte.getLsbD 7 = false then some .dirtyClear
      else none := by
  simp only [purposeCheck, sumDenies_iff, flagW, flagD, Bool.not_eq_true']

/-- The SUM check stands first for the two data purposes (R186). -/
theorem purposeCheck_sumDenied {purpose : Purpose} (hd : purpose = .load ∨ purpose = .storeamo)
    (h : sum = false ∧ priv = .s ∧ pte.getLsbD 4 = true) : purposeCheck purpose priv sum mxr pte = some .sumDenied := by
  obtain rfl | rfl := hd
  · rw [purposeCheck_load, if_pos h]
  · rw [purposeCheck_storeamo, if_pos h]

/-- The check of a purpose passes when each condition of R185 to R188 that the purpose asks for is met. -/
theorem purposeCheck_eq_none {purpose : Purpose}
    (hX : purpose = .fetch ∨ purpose = .deleg → pte.getLsbD 3 = true)
    (hS : purpose = .load ∨ purpose = .storeamo → ¬ (sum = false ∧ priv = .s ∧ pte.getLsbD 4 = true))
    (hR : purpose = .load → pte.getLsbD 1 = true ∨ (mxr = true ∧ pte.getLsbD 3 = true))
    (hW : purpose = .storeamo → pte.getLsbD 2 = true ∧ pte.getLsbD 7 = true) :
    purposeCheck purpose priv sum mxr pte = none := by
  cases purpose with
  | fetch => rw [purposeCheck_fetches (.inl rfl), if_pos (hX (.inl rfl))]
  | deleg => rw [purposeCheck_fetches (.inr rfl), if_pos (hX (.inr rfl))]
  | load => rw [purposeCheck_load, if_neg (hS (.inl rfl)), if_neg (not_not_intro (hR rfl))]
  | storeamo =>
    obtain ⟨hW, hD⟩ := hW rfl
    rw [purposeCheck_storeamo, if_neg (hS (.inr rfl)), if_neg (ne_false_of_eq_true hW), if_neg (ne_false_of_eq_true hD)]

end

/-! ## The superpage check -/

/-- R189 at each level of both ISA widths: the PPN segments below the leaf level, as fields of the PTE. -/
theorem misalignedSuperpage_iff {isa : Isa} {level : Nat} (pte : Word64) (hl : level < levels isa) :
    misalignedSuperpage isa pte level = true ↔
      (isa = .rv32 ∧ level = 1 ∧ pte.extractLsb' 10 10 ≠ 0) ∨
      (isa = .rv64 ∧ 1 ≤ level ∧ pte.extractLsb' 10 9 ≠ 0) ∨ (isa = .rv64 ∧ level = 2 ∧ pte.extractLsb' 19 9 ≠ 0) := by
  cases isa with
  | rv32 =>
    obtain rfl | rfl : level = 0 ∨ level = 1 := by simp only [levels] at hl; omega
    · simp [misalignedSuperpage]
    · simp [misalignedSuperpage, List.range_succ, ppn, ppn0Sv32, BitVec.toNat_eq]
  | rv64 =>
    obtain rfl | rfl | rfl : level = 0 ∨ level = 1 ∨ level = 2 := by simp only [levels] at hl; omega
    · simp [misalignedSuperpage]
    · simp [misalignedSuperpage, List.range_succ, ppn, ppn0Sv39, BitVec.toNat_eq]
    · simp [misalignedSuperpage, List.range_succ, ppn, ppn0Sv39, ppn1Sv39, BitVec.toNat_eq]

/-! ## The end of a request at a received word -/

section
variable {s : State} (data : Word64) (hf : s.w.fsm = .wait) (hl : s.w.wLevel.toNat < levels s.w.cIsa)
include hf hl

/-- `PTE.INVALID` on a waiting walker: the word is recorded, then the request ends (R180). -/
theorem exec_pteInvalid_wait :
    exec (.pteInvalid data) s =
      .next (s.onWalker fun w => (w.recordPte (pteWord w.cIsa data)).endFault .pteInvalid w.wLevel) :=
  receivePte_wait (act := fun _ w => w.endFault .pteInvalid w.wLevel) hf hl

/-- `PTE.RESERVED_WNR` on a waiting walker: the word is recorded, then the request ends (R181). -/
theorem exec_pteReservedWnr_wait :
    exec (.pteReservedWnr data) s =
      .next (s.onWalker fun w => (w.recordPte (pteWord w.cIsa data)).endFault .pteReservedWnr w.wLevel) :=
  receivePte_wait (act := fun _ w => w.endFault .pteReservedWnr w.wLevel) hf hl

/-- Either leaf row on a waiting walker: the word is recorded, then the leaf step (R168). -/
theorem exec_pteLeaf_wait {i : Instr} (hi : i ∈ [Instr.pteLeafR data, .pteLeafXo data]) :
    exec i s = .next (s.onWalker fun w => (w.recordPte (pteWord w.cIsa data)).leafStep (pteWord w.cIsa data)) := by
  obtain rfl | rfl : i = .pteLeafR data ∨ i = .pteLeafXo data := by simpa using hi
  · exact receivePte_wait hf hl
  · exact receivePte_wait hf hl

end

/-- R191: a leaf that passes every check ends the request with its address. -/
theorem leafStep_of_passes {pte : Word64} {w : Walker}
    (h : leafCheck w.qPurpose w.qPriv w.cSum w.cMxr w.cIsa pte w.wLevel.toNat = none) :
    w.leafStep pte = w.endOk (physAddr w.cIsa pte w.wLevel.toNat w.qVaddr) pte w.wLevel := by
  simp only [Walker.leafStep, h]

/-- R191: a leaf that fails a check ends the request with the fault of that check. -/
theorem leafStep_of_fails {pte : Word64} {w : Walker} {d : Diag}
    (h : leafCheck w.qPurpose w.qPriv w.cSum w.cMxr w.cIsa pte w.wLevel.toNat = some d) :
    w.leafStep pte = w.endFault d w.wLevel := by
  simp only [Walker.leafStep, h]

/-! ## The obligations -/

/-- Settles O28: the first two checks, then the check of the purpose, each failure by its own equation, then the superpage check. -/
theorem leafChecksInOrder : Obligations.LeafChecksInOrder := by
  unfold Obligations.LeafChecksInOrder
  intro purpose priv sum mxr isa pte level _ hl r fetches data reachesPurpose sumPasses readable purposePasses misaligned
  have passes : purposePasses → purposeCheck purpose priv sum mxr pte = none :=
    fun ⟨hX, hS, hR, hW⟩ => purposeCheck_eq_none hX hS hR hW
  have aligned : misalignedSuperpage isa pte level = true ↔ misaligned := misalignedSuperpage_iff pte hl
  refine ⟨leafCheck_accessedClear, leafCheck_userDenied, fun hr hf hX => ?exec, fun hr hd hS => ?sum,
    fun hr hp hS hR => ?read, fun hr hp hS hW => ?write, fun hr hp hS hW hD => ?dirty, fun hr hp hm => ?misaligned,
    fun hr hp hm => ?pass⟩
  case exec =>
    exact leafCheck_of_purposeCheck_some hr (by rw [purposeCheck_fetches hf, if_neg (ne_true_of_eq_false hX)])
  case sum =>
    exact leafCheck_of_purposeCheck_some hr (purposeCheck_sumDenied hd (not_not.mp hS))
  case read =>
    exact leafCheck_of_purposeCheck_some hr (by rw [hp, purposeCheck_load, if_neg hS, if_pos hR])
  case write =>
    exact leafCheck_of_purposeCheck_some hr (by rw [hp, purposeCheck_storeamo, if_neg hS, if_pos hW])
  case dirty =>
    exact leafCheck_of_purposeCheck_some hr
      (by rw [hp, purposeCheck_storeamo, if_neg hS, if_neg (ne_false_of_eq_true hW), if_pos hD])
  case misaligned => exact (leafCheck_of_purposeCheck_none hr (passes hp)).trans (if_pos (aligned.mpr hm))
  case pass => exact (leafCheck_of_purposeCheck_none hr (passes hp)).trans (if_neg (mt aligned.mp hm))

/-- Settles O22: the class by its bits, and the receive step of each of the two classes. -/
theorem invalidAndReservedPtesEndWithFault : Obligations.InvalidAndReservedPtesEndWithFault := by
  unfold Obligations.InvalidAndReservedPtesEndWithFault
  refine ⟨fun data hV => ?_, fun data hV hW hR => ?_, fun s data hf hl => ⟨?_, ?_⟩⟩
  · simp only [decode, decodePte, hV, Bool.false_eq_true, if_false]
  · simp only [decode, decodePte, hV, hW, hR, Bool.false_eq_true, if_false, if_true]
  · exact exec_pteInvalid_wait data hf hl
  · exact exec_pteReservedWnr_wait data hf hl

/-- Settles O25: the receive step of a leaf is the leaf step, and recording the word leaves what the checks read. -/
theorem leafPtesAreCheckedAndTranslated : Obligations.LeafPtesAreCheckedAndTranslated := by
  unfold Obligations.LeafPtesAreCheckedAndTranslated
  intro s data hf hl i hi pte check
  have hstep := exec_pteLeaf_wait data hf hl hi
  refine ⟨fun hc => ?_, fun d hc => ?_⟩
  · have hleaf := leafStep_of_passes (w := s.w.recordPte pte) hc
    rw [hstep, State.onWalker, hleaf]
    rfl
  · have hleaf := leafStep_of_fails (w := s.w.recordPte pte) hc
    rw [hstep, State.onWalker, hleaf]
    rfl

end Sys2Proof.Machine

/-! The cause of a response: each end of a request writes it, and no step reaches `RESP` but by such an end
(60_exceptions.md). -/

namespace Sys2Proof.Machine

/-- The cause register holds the cause of the purpose when the response is a fault, and 0 when it is not (R221). -/
def Walker.CauseFollowsKind (w : Walker) : Prop := w.rCause = if w.rKind = .fault then cause w.qPurpose else 0

/-! ## The ends of a request -/

theorem endOk_causeFollowsKind (pa leafPte : Word64) (level : BitVec 2) (w : Walker) :
    (w.endOk pa leafPte level).CauseFollowsKind := rfl

theorem endFault_causeFollowsKind (diag : Diag) (level : BitVec 2) (w : Walker) :
    (w.endFault diag level).CauseFollowsKind := rfl

theorem endConfigError_causeFollowsKind (w : Walker) : w.endConfigError.CauseFollowsKind := rfl

/-! ## The steps that reach `RESP` -/

/-- A leaf ends the request either way (R191). -/
theorem leafStep_causeFollowsKind (pte : Word64) (w : Walker) : (w.leafStep pte).CauseFollowsKind := by
  obtain ⟨d, h, -⟩ | h := leafStep_cases pte w <;> rw [h]
  · exact endFault_causeFollowsKind d w.wLevel w
  · exact endOk_causeFollowsKind _ pte w.wLevel w

/-- A pointer ends the request at level 0 only; elsewhere the walk goes on in `ISSUE` (R168, R171). -/
theorem pointerStep_causeFollowsKind {pte : Word64} {w : Walker} (h : (w.pointerStep pte).fsm = .resp) :
    (w.pointerStep pte).CauseFollowsKind := by
  by_cases h0 : w.wLevel = 0
  · rw [pointerStep_level_zero pte h0]
    exact endFault_causeFollowsKind .noLeaf 0 w
  · have hd : w.pointerStep pte = w.descend pte := if_neg h0
    simp [hd] at h

/-- A received word that ends the request (R168). -/
theorem receiveAct_causeFollowsKind {d pte : Word64} {w : Walker} (h : (receiveAct d pte w).fsm = .resp) :
    (receiveAct d pte w).CauseFollowsKind := by
  obtain ha | ha | ha | ha := receiveAct_cases d pte w <;> rw [ha] at h ⊢
  · exact endFault_causeFollowsKind .pteInvalid w.wLevel w
  · exact endFault_causeFollowsKind .pteReservedWnr w.wLevel w
  · exact leafStep_causeFollowsKind pte w
  · exact pointerStep_causeFollowsKind h

/-- A refresh and dispatch that ends the request in its accept step, by a configuration error or an identity (R122, R141, R142). -/
theorem refreshAndDispatch_causeFollowsKind {cfg : Option (Mode × Frame)} {w : Walker}
    (h : (w.refreshAndDispatch cfg).fsm = .resp) : (w.refreshAndDispatch cfg).CauseFollowsKind := by
  obtain he | ⟨mode, root, he | he⟩ := refreshAndDispatch_cases cfg w <;> rw [he] at h ⊢
  · exact endConfigError_causeFollowsKind w
  · exact endOk_causeFollowsKind w.qVaddr 0 0 (w.latchConfig mode root)
  · simp at h

/-- Every step that reaches `RESP` is an acceptance or a memory response that ends the request. -/
theorem step_causeFollowsKind {s t : State} (h : step s = .next t) (hs : s.w.fsm ≠ .resp) (ht : t.w.fsm = .resp) :
    t.w.CauseFollowsKind := by
  cases hr : s.inp.rst
  case true => simp [step_of_reset h hr, Walker.reset] at ht
  case false =>
    cases hf : s.w.fsm
    case idle =>
      obtain ⟨-, ⟨-, hw⟩ | ⟨-, hw⟩⟩ := step_of_idle h hr hf <;> rw [hw] at ht ⊢
      · exact absurd ht hs
      · exact refreshAndDispatch_causeFollowsKind ht
    case issue =>
      obtain ⟨hw, -⟩ | hw := step_of_issue h hr hf <;> simp [hw, hf] at ht
    case wait =>
      obtain ⟨-, ⟨-, hw⟩ | ⟨-, -, hw⟩ | ⟨-, d, -, hw⟩⟩ := step_of_wait h hr hf <;> rw [hw] at ht ⊢
      · exact absurd ht hs
      · exact endFault_causeFollowsKind .memReadError s.w.wLevel _
      · exact receiveAct_causeFollowsKind ht
    case resp => exact absurd hf hs

/-! ## The obligation -/

/-- Settles O50: `step_causeFollowsKind`, with the code of each purpose read off `cause`. -/
theorem everyFaultCarriesTheCauseOfItsPurpose : Obligations.EveryFaultCarriesTheCauseOfItsPurpose := by
  unfold Obligations.EveryFaultCarriesTheCauseOfItsPurpose
  intro s t h hs ht
  have hc : t.w.rCause = if t.w.rKind = .fault then cause t.w.qPurpose else 0 := step_causeFollowsKind h hs ht
  refine ⟨fun hk => ?_, fun hk => hc.trans (if_neg hk)⟩
  rw [if_pos hk] at hc
  refine ⟨?_, fun hp => ?_, fun hp => ?_⟩
  · rintro (hp | hp) <;> rw [hc, hp] <;> rfl
  · rw [hc, hp]; rfl
  · rw [hc, hp]; rfl

end Sys2Proof.Machine

/-! The decoder and the encoder are inverse to each other (30_encoding.md): each format's fields are read back from a word that
is put together from them, and put a word together again. -/

namespace Sys2Proof

/-! ## Requests -/

/-- A privilege level is read back from its code (R81). -/
@[simp] theorem privOfCode_code (priv : Priv) : Priv.ofCode priv.code = priv := by
  cases priv <;> rfl

/-- The command word of each operation is {privilege code, purpose code} (R88). -/
theorem encode_requestInstr (purpose : Purpose) (priv : Priv) (va : Word64) :
    encode (requestInstr purpose priv va) = .req (priv.code ++ purpose.code) va := by
  cases purpose <;> rfl

/-- A command word put together from two codes is the operation of these codes (R88). -/
theorem decode_req_append (priv purpose : BitVec 2) (va : Word64) :
    decode (.req (priv ++ purpose) va) = requestInstr (Purpose.ofCode purpose) (Priv.ofCode priv) va := by
  simp only [decode, decodeReq, Machine.command_fields]

/-- A request is read back from its command word (R88). -/
theorem decode_encode_requestInstr (purpose : Purpose) (priv : Priv) (va : Word64) :
    decode (encode (requestInstr purpose priv va)) = requestInstr purpose priv va := by
  rw [encode_requestInstr, decode_req_append, purposeOfCode_code, privOfCode_code]

/-- A command word is the encoding of its operation (R88). -/
theorem encode_decodeReq (cmd : BitVec 4) (va : Word64) : encode (decodeReq cmd va) = .req cmd va := by
  have fields : ∀ c : BitVec 4, (c.extractLsb' 2 2 ++ c.extractLsb' 0 2 : BitVec 4) = c := by decide
  rw [decodeReq, encode_requestInstr, Machine.code_privOfCode, Machine.code_purposeOfCode, fields]

/-- A term of a request row is well formed, whatever its operands. -/
theorem requestInstr_wf (purpose : Purpose) (priv : Priv) (va : Word64) : (requestInstr purpose priv va).wf = true := by
  cases purpose <;> rfl

/-! ## Root registers -/

/-- The fields of a word put together from a mode, an ignored field and a frame number (R25, R26). -/
theorem root_fields {m i p : Nat} (mode : BitVec m) (ign : BitVec i) (ppn : BitVec p) :
    (mode ++ ign ++ ppn).extractLsb' (i + p) m = mode ∧ (mode ++ ign ++ ppn).extractLsb' p i = ign ∧
    (mode ++ ign ++ ppn).extractLsb' 0 p = ppn := by
  refine ⟨BitVec.eq_of_getLsbD_eq fun k hk => ?_, BitVec.eq_of_getLsbD_eq fun k hk => ?_, BitVec.extractLsb'_append_eq_right⟩
  · simp [BitVec.getLsbD_append, hk, show ¬ i + p + k < p by omega, show ¬ i + p + k - p < i by omega,
      show i + p + k - p - i = k by omega]
  · simp [BitVec.getLsbD_append, hk]

/-- Mode, ignored field and frame number put a 64-bit root register together again (R26). -/
theorem root64_append (satp : Word64) :
    (satp.extractLsb' 60 4 ++ satp.extractLsb' 44 16 ++ satp.extractLsb' 0 44 : Word64) = satp := by
  have upper : satp.extractLsb' 60 4 ++ satp.extractLsb' 44 16 = satp.extractLsb' 44 20 :=
    BitVec.extractLsb'_append_extractLsb'_eq_extractLsb' (by decide)
  rw [upper, BitVec.extractLsb'_append_extractLsb'_eq_extractLsb' (by decide)]
  exact BitVec.extractLsb'_eq_self

/-- Mode, ignored field and frame number put a 32-bit root register together again (R25). -/
theorem root32_append (satp : BitVec 32) :
    (satp.extractLsb' 31 1 ++ satp.extractLsb' 22 9 ++ satp.extractLsb' 0 22 : BitVec 32) = satp := by
  have upper : satp.extractLsb' 31 1 ++ satp.extractLsb' 22 9 = satp.extractLsb' 22 10 :=
    BitVec.extractLsb'_append_extractLsb'_eq_extractLsb' (by decide)
  rw [upper, BitVec.extractLsb'_append_extractLsb'_eq_extractLsb' (by decide)]
  exact BitVec.extractLsb'_eq_self

/-- A 64-bit root register put together from its fields is the row of its mode (R26). -/
theorem decode_encodeRoot64 (mode : BitVec 4) (ign : BitVec 16) (ppn : BitVec 44) :
    decode (encodeRoot64 mode ign ppn) = rootRow64 mode ign ppn := by
  obtain ⟨hm, hi, hp⟩ := root_fields mode ign ppn
  simp only [decode, encodeRoot64, decodeRoot64]
  exact congr (congr (congrArg rootRow64 hm) hi) hp

/-- Each `SATP64` row encodes its own mode (R26). -/
theorem encode_rootRow64 (mode : BitVec 4) (ign : BitVec 16) (ppn : BitVec 44) :
    encode (rootRow64 mode ign ppn) = encodeRoot64 mode ign ppn := by
  obtain ⟨⟨m, hm⟩⟩ := mode
  interval_cases m <;> rfl

/-- A term of a `SATP64` row is well formed, whatever its operands. -/
theorem rootRow64_wf (mode : BitVec 4) (ign : BitVec 16) (ppn : BitVec 44) : (rootRow64 mode ign ppn).wf = true := by
  obtain ⟨⟨m, hm⟩⟩ := mode
  interval_cases m <;> rfl

/-- The `SATP32` row of a mode bit (R25). -/
def rootRow32 (mode : BitVec 1) (ign : BitVec 9) (ppn : BitVec 22) : Instr :=
  if mode = 1 then .satp32Sv32 ign ppn else .satp32Bare ign ppn

/-- A 32-bit root register is the row of its mode bit (R25). -/
theorem decodeRoot32_eq_row (satp : BitVec 32) :
    decodeRoot32 satp = rootRow32 (satp.extractLsb' 31 1) (satp.extractLsb' 22 9) (satp.extractLsb' 0 22) := by
  have bit : satp.extractLsb' 31 1 = BitVec.ofBool (satp.getLsbD 31) := by
    refine BitVec.eq_of_getLsbD_eq fun k hk => ?_
    obtain rfl : k = 0 := by omega
    simp
  unfold decodeRoot32 rootRow32
  rw [bit]
  cases satp.getLsbD 31 <;> rfl

/-- A 32-bit root register put together from its fields is the row of its mode (R25). -/
theorem decode_root32_append (mode : BitVec 1) (ign : BitVec 9) (ppn : BitVec 22) :
    decode (.root32 (mode ++ ign ++ ppn)) = rootRow32 mode ign ppn := by
  obtain ⟨hm, hi, hp⟩ := root_fields mode ign ppn
  refine (decodeRoot32_eq_row _).trans ?_
  exact congr (congr (congrArg rootRow32 hm) hi) hp

/-- Each `SATP32` row encodes its own mode, and every term of it is well formed (R25). -/
theorem encode_rootRow32 (mode : BitVec 1) (ign : BitVec 9) (ppn : BitVec 22) :
    encode (rootRow32 mode ign ppn) = .root32 (mode ++ ign ++ ppn) ∧ (rootRow32 mode ign ppn).wf = true := by
  obtain rfl | rfl : mode = 0 ∨ mode = 1 := by revert mode; decide
  · exact ⟨rfl, rfl⟩
  · exact ⟨rfl, rfl⟩

/-! ## PTE words -/

/-- The low bits of a word are given bit by bit. -/
theorem extractLsb'_zero_eq_iff {n : Nat} (data : Word64) (v : BitVec n) :
    data.extractLsb' 0 n = v ↔ ∀ k, k < n → data.getLsbD k = v.getLsbD k := by
  refine ⟨fun h k hk => ?_, fun h => BitVec.eq_of_getLsbD_eq fun k hk => ?_⟩
  · rw [← h]; simp [hk]
  · rw [← h k hk]; simp [hk]

section
variable (data : Word64)

theorem pteInvalid_wf_iff : (Instr.pteInvalid data).wf = true ↔ data.getLsbD 0 = false := by
  simp only [Instr.wf, beq_iff_eq, extractLsb'_zero_eq_iff, Nat.forall_lt_succ_right]
  simp

theorem pteReservedWnr_wf_iff :
    (Instr.pteReservedWnr data).wf = true ↔ data.getLsbD 0 = true ∧ data.getLsbD 1 = false ∧ data.getLsbD 2 = true := by
  simp only [Instr.wf, beq_iff_eq, extractLsb'_zero_eq_iff, Nat.forall_lt_succ_right]
  simp [and_assoc]

theorem ptePointer_wf_iff :
    (Instr.ptePointer data).wf = true ↔
      data.getLsbD 0 = true ∧ data.getLsbD 1 = false ∧ data.getLsbD 2 = false ∧ data.getLsbD 3 = false := by
  simp only [Instr.wf, beq_iff_eq, extractLsb'_zero_eq_iff, Nat.forall_lt_succ_right]
  simp [and_assoc]

theorem pteLeafR_wf_iff : (Instr.pteLeafR data).wf = true ↔ data.getLsbD 0 = true ∧ data.getLsbD 1 = true := by
  simp only [Instr.wf, beq_iff_eq, extractLsb'_zero_eq_iff, Nat.forall_lt_succ_right]
  simp

theorem pteLeafXo_wf_iff :
    (Instr.pteLeafXo data).wf = true ↔
      data.getLsbD 0 = true ∧ data.getLsbD 1 = false ∧ data.getLsbD 2 = false ∧ data.getLsbD 3 = true := by
  simp only [Instr.wf, beq_iff_eq, extractLsb'_zero_eq_iff, Nat.forall_lt_succ_right]
  simp [and_assoc]

/-- A word of a `PTE` row's bits is decoded as that row (R76). -/
theorem decodePte_of_wf {i : Instr}
    (hi : i ∈ [Instr.pteInvalid data, .pteReservedWnr data, .ptePointer data, .pteLeafR data, .pteLeafXo data])
    (h : i.wf = true) : decodePte data = i := by
  simp only [List.mem_cons, List.not_mem_nil, or_false] at hi
  obtain rfl | rfl | rfl | rfl | rfl := hi
  · simp only [decodePte, (pteInvalid_wf_iff data).mp h, Bool.false_eq_true, if_false]
  · obtain ⟨h0, h1, h2⟩ := (pteReservedWnr_wf_iff data).mp h
    simp only [decodePte, h0, h1, h2, Bool.false_eq_true, if_false, if_true]
  · obtain ⟨h0, h1, h2, h3⟩ := (ptePointer_wf_iff data).mp h
    simp only [decodePte, h0, h1, h2, h3, Bool.false_eq_true, if_false, if_true]
  · obtain ⟨h0, h1⟩ := (pteLeafR_wf_iff data).mp h
    simp only [decodePte, h0, h1, if_true]
  · obtain ⟨h0, h1, h2, h3⟩ := (pteLeafXo_wf_iff data).mp h
    simp only [decodePte, h0, h1, h2, h3, Bool.false_eq_true, if_false, if_true]

/-- A PTE word is the encoding of the row of its class, and has the bits of that row (R76). -/
theorem encode_decodePte : encode (decodePte data) = .pte data ∧ (decodePte data).wf = true := by
  obtain ⟨h0, h⟩ | ⟨h0, h1, h⟩ | ⟨h0, h1, h2, h⟩ | ⟨h0, h1, h2, h3, h⟩ | ⟨h0, h1, h2, h3, h⟩ := Machine.decodePte_cases data <;>
    rw [h]
  · exact ⟨rfl, (pteInvalid_wf_iff data).mpr h0⟩
  · exact ⟨rfl, (pteLeafR_wf_iff data).mpr ⟨h0, h1⟩⟩
  · exact ⟨rfl, (pteReservedWnr_wf_iff data).mpr ⟨h0, h1, h2⟩⟩
  · exact ⟨rfl, (pteLeafXo_wf_iff data).mpr ⟨h0, h1, h2, h3⟩⟩
  · exact ⟨rfl, (ptePointer_wf_iff data).mpr ⟨h0, h1, h2, h3⟩⟩

end

/-! ## The obligations -/

/-- Settles O2, format by format: `decode_encode_requestInstr`, `decode_root32_append`, `decode_encodeRoot64` and
`decodePte_of_wf`. -/
theorem decodeOfEncodeIsIdentity : Obligations.DecodeOfEncodeIsIdentity := by
  unfold Obligations.DecodeOfEncodeIsIdentity
  intro i h
  cases i with
  | translateFetch priv va => exact decode_encode_requestInstr .fetch priv va
  | translateLoad priv va => exact decode_encode_requestInstr .load priv va
  | translateStoreamo priv va => exact decode_encode_requestInstr .storeamo priv va
  | translateDeleg priv va => exact decode_encode_requestInstr .deleg priv va
  | satp32Bare ign ppn => exact decode_root32_append 0x0 ign ppn
  | satp32Sv32 ign ppn => exact decode_root32_append 0x1 ign ppn
  | satp64Bare ign ppn => exact decode_encodeRoot64 0x0 ign ppn
  | satp64Unsupported1 ign ppn => exact decode_encodeRoot64 0x1 ign ppn
  | satp64Unsupported2 ign ppn => exact decode_encodeRoot64 0x2 ign ppn
  | satp64Unsupported3 ign ppn => exact decode_encodeRoot64 0x3 ign ppn
  | satp64Unsupported4 ign ppn => exact decode_encodeRoot64 0x4 ign ppn
  | satp64Unsupported5 ign ppn => exact decode_encodeRoot64 0x5 ign ppn
  | satp64Unsupported6 ign ppn => exact decode_encodeRoot64 0x6 ign ppn
  | satp64Unsupported7 ign ppn => exact decode_encodeRoot64 0x7 ign ppn
  | satp64Sv39 ign ppn => exact decode_encodeRoot64 0x8 ign ppn
  | satp64Unsupported9 ign ppn => exact decode_encodeRoot64 0x9 ign ppn
  | satp64Unsupported10 ign ppn => exact decode_encodeRoot64 0xA ign ppn
  | satp64Unsupported11 ign ppn => exact decode_encodeRoot64 0xB ign ppn
  | satp64Unsupported12 ign ppn => exact decode_encodeRoot64 0xC ign ppn
  | satp64Unsupported13 ign ppn => exact decode_encodeRoot64 0xD ign ppn
  | satp64Unsupported14 ign ppn => exact decode_encodeRoot64 0xE ign ppn
  | satp64Unsupported15 ign ppn => exact decode_encodeRoot64 0xF ign ppn
  | pteInvalid data => exact decodePte_of_wf data (by simp) h
  | pteReservedWnr data => exact decodePte_of_wf data (by simp) h
  | ptePointer data => exact decodePte_of_wf data (by simp) h
  | pteLeafR data => exact decodePte_of_wf data (by simp) h
  | pteLeafXo data => exact decodePte_of_wf data (by simp) h

/-- Settles O3, format by format: the fields of a word put it together again. -/
theorem encodeOfDecodeIsIdentity : Obligations.EncodeOfDecodeIsIdentity := by
  unfold Obligations.EncodeOfDecodeIsIdentity
  intro p
  cases p with
  | req cmd va => exact ⟨encode_decodeReq cmd va, requestInstr_wf _ _ va⟩
  | root32 satp =>
    obtain ⟨he, hw⟩ := encode_rootRow32 (satp.extractLsb' 31 1) (satp.extractLsb' 22 9) (satp.extractLsb' 0 22)
    rw [root32_append] at he
    simpa only [decode, decodeRoot32_eq_row] using And.intro he hw
  | root64 satp =>
    have he := encode_rootRow64 (satp.extractLsb' 60 4) (satp.extractLsb' 44 16) (satp.extractLsb' 0 44)
    rw [encodeRoot64, root64_append] at he
    exact ⟨he, rootRow64_wf _ _ _⟩
  | pte data => exact encode_decodePte data

/-- Settles O1, by running the decoder on each word. -/
theorem listedWordsDecode : Obligations.ListedWordsDecode := by
  unfold Obligations.ListedWordsDecode
  refine ⟨fun _ => rfl, fun _ => rfl, fun _ => rfl, fun _ => rfl, ?_⟩
  decide

end Sys2Proof

/-! The PTE address: the exact sum of R162, which the 56-bit port holds without wrapping (43_walk.md, 20_memory.md). -/

namespace Sys2Proof.Machine

/-- A VPN field as a number (R100, R101). -/
theorem vpn_eq (isa : Isa) (va : Word64) (level : Nat) :
    vpn isa va level = va.toNat / 2 ^ (12 + vpnBits isa * level) % 2 ^ vpnBits isa := by
  cases isa <;> simp [vpn, vpn32, vpn39, vpnBits, Nat.shiftRight_eq_div_pow]

/-- A table of PTEs fills one page: the last VPN still falls inside it. -/
theorem vpn_mul_ptesize_lt (isa : Isa) (va : Word64) (level : Nat) : vpn isa va level * ptesize isa < 4096 := by
  cases isa with
  | rv32 =>
    have h : vpn .rv32 va level < 2 ^ 10 := (vpn32 va level).isLt
    simp only [ptesize]; omega
  | rv64 =>
    have h : vpn .rv64 va level < 2 ^ 9 := (vpn39 va level).isLt
    simp only [ptesize]; omega

/-- R162, R163: the PTE address does not wrap. -/
theorem pteAddr_toNat (isa : Isa) (frame : Frame) (va : Word64) (level : Nat) :
    (pteAddr isa frame va level).toNat = frame.toNat * 4096 + vpn isa va level * ptesize isa := by
  have hf := frame.isLt
  have hv := vpn_mul_ptesize_lt isa va level
  have hsum : frame.toNat * 4096 + vpn isa va level * ptesize isa < 2 ^ 56 := by omega
  simpa [pteAddr, Config.pageSize] using Nat.mod_eq_of_lt hsum

/-- R56: the PTE address is naturally aligned. -/
theorem pteAddr_aligned (isa : Isa) (frame : Frame) (va : Word64) (level : Nat) :
    (pteAddr isa frame va level).toNat % ptesize isa = 0 := by
  have hpage : 4096 % ptesize isa = 0 := by cases isa <;> rfl
  simp [pteAddr_toNat, Nat.add_mod, Nat.mul_mod frame.toNat, hpage]

/-- Settles O6: `pteAddr_toNat` with the VPN field written out, and the bounds it gives. -/
theorem pteAddressIsExactSum : Obligations.PteAddressIsExactSum := by
  unfold Obligations.PteAddressIsExactSum
  intro frame va level
  refine ⟨?_, ?_, pteAddr_aligned .rv32 frame va level, pteAddr_aligned .rv64 frame va level, fun hf => ?_⟩
  · rw [pteAddr_toNat, vpn_eq]; rfl
  · rw [pteAddr_toNat, vpn_eq]; rfl
  · have hv := vpn_mul_ptesize_lt .rv32 va level
    rw [pteAddr_toNat]; omega

end Sys2Proof.Machine

/-! The invariant of the machine: it holds after reset, every step keeps it, and from it no step faults (43_walk.md,
70_reset_and_hazards.md). -/

namespace Sys2Proof.Machine

/-! ## The refresh and the accept step -/

/-- What a root register decodes to: only RV64 has modes that do not decode; a decoded mode is Bare or the ISA's own, and an RV32
root frame is 22 bits wide (R120, R121). -/
theorem refreshConfig_range (isa : Isa) (satp : Word64) :
    (refreshConfig isa satp = none → isa = .rv64) ∧
    ∀ mode root, refreshConfig isa satp = some (mode, root) →
      (mode = .bare ∨ mode = walkMode isa) ∧ (isa = .rv32 → root.toNat < 2 ^ 22) := by
  cases isa with
  | rv32 =>
    refine ⟨nofun, fun mode root h => ?_⟩
    obtain ⟨rfl, rfl⟩ : _ = mode ∧ _ = root := by simpa [refreshConfig] using h
    refine ⟨by cases satp.getLsbD 31 <;> simp [walkMode], fun _ => ?_⟩
    rw [BitVec.toNat_setWidth_of_le (by decide)]
    exact BitVec.isLt _
  | rv64 =>
    refine ⟨fun _ => rfl, fun mode root h => ⟨?_, nofun⟩⟩
    simp only [refreshConfig, ite_eq_iff, Option.some.injEq, Prod.mk.injEq, reduceCtorEq, and_false, or_false] at h
    obtain ⟨-, rfl, -⟩ | ⟨-, -, rfl, -⟩ := h
    · exact .inl rfl
    · exact .inr rfl

/-- The registers with the request on the ports latched (R165). -/
abbrev latchedWalker (s : State) : Walker :=
  s.w.latchRequest (Purpose.ofCode s.inp.reqPurpose) (Priv.ofCode s.inp.reqPriv) s.inp.reqVaddr s.inp.cfgIsa s.inp.cfgSum
    s.inp.cfgMxr

/-- The accept step by what the refresh gives and by the dispatch (R122, R141 to R143). -/
theorem acceptedWalker_cases (s : State) :
    (refreshConfig s.inp.cfgIsa s.inp.cfgSatp = none ∧ acceptedWalker s = (latchedWalker s).endConfigError) ∨
    ∃ mode root, refreshConfig s.inp.cfgIsa s.inp.cfgSatp = some (mode, root) ∧
      ((acceptedWalker s = ((latchedWalker s).latchConfig mode root).endOk s.inp.reqVaddr 0 0 ∧
          (excludedFromTranslation (Priv.ofCode s.inp.reqPriv) = true ∨ mode = .bare)) ∨
        (acceptedWalker s = ((latchedWalker s).latchConfig mode root).startWalk ∧
          excludedFromTranslation (Priv.ofCode s.inp.reqPriv) = false ∧ mode ≠ .bare)) := by
  unfold acceptedWalker
  match refreshConfig s.inp.cfgIsa s.inp.cfgSatp with
  | none => exact .inl ⟨rfl, rfl⟩
  | some (mode, root) => exact .inr ⟨mode, root, rfl, dispatch_cases ((latchedWalker s).latchConfig mode root)⟩

/-- The translated privilege levels are `U` and `S` (R141). -/
theorem excludedFromTranslation_eq_false {priv : Priv} (h : excludedFromTranslation priv = false) : priv = .u ∨ priv = .s := by
  cases priv <;> simp [excludedFromTranslation] at h ⊢

/-- An address whose upper half is zero is 32 bits wide (R47). -/
theorem toNat_lt_of_upper_half {va : Word64} (h : va.extractLsb' 32 32 = 0) : va.toNat < 2 ^ 32 := by
  have hz : va.toNat >>> 32 % 2 ^ 32 = 0 := congrArg BitVec.toNat h
  rw [Nat.shiftRight_eq_div_pow] at hz
  have := va.isLt
  omega

/-- The top level is the last of the levels (R7). -/
theorem topLevel_add_one (isa : Isa) : (topLevel isa).toNat + 1 = levels isa := by
  cases isa <;> rfl

/-- A walk starts in order: no read made, the top level, the root frame (R165). -/
theorem startWalk_walkOk {w : Walker} (hp : excludedFromTranslation w.qPriv = false) (hm : w.cMode = walkMode w.cIsa)
    (hr : w.wReads = 0) (ht : w.tValid = 0) (hroot : w.cIsa = .rv32 → w.cRoot.toNat < 2 ^ 22) : w.startWalk.walkOk := by
  have htop := topLevel_add_one w.cIsa
  refine ⟨excludedFromTranslation_eq_false hp, hm, ?_, fun l => ?_, hroot⟩
  · simpa [hr] using htop
  · rw [startWalk_tValid, startWalk_wLevel, startWalk_cIsa, ht, ← Bool.decide_and, decide_eq_false (by omega)]
    simp

/-- A request that ends in its accept step with an address has a response of the right form (R141, R142). -/
theorem endOk_level_zero_respOk {w : Walker} (pa pte : Word64) (hr : w.wReads = 0) : (w.endOk pa pte 0).respOk :=
  ⟨fun _ => rfl, fun h => absurd (congrArg BitVec.toNat hr) h, fun _ => ⟨rfl, rfl⟩, nofun, nofun⟩

/-- A configuration error is a response of the right form (R123). -/
theorem endConfigError_respOk {w : Walker} (hr : w.wReads = 0) (hi : w.cIsa = .rv64) : w.endConfigError.respOk :=
  ⟨fun _ => rfl, fun h => absurd (congrArg BitVec.toNat hr) h, nofun, nofun,
    fun _ => ⟨rfl, rfl, rfl, rfl, congrArg BitVec.toNat hr, hi, rfl⟩⟩

/-- The accept step of a request inside the contract gives the invariant, whatever the registers were. -/
theorem acceptedWalker_inv {s : State} (hc : s.requestInContract) : (acceptedWalker s).inv := by
  obtain ⟨hnone, hrange⟩ := refreshConfig_range s.inp.cfgIsa s.inp.cfgSatp
  obtain ⟨hr, hw⟩ | ⟨mode, root, hr, hw⟩ := acceptedWalker_cases s
  · have hisa := hnone hr
    rw [hw]
    exact ⟨by simp [hisa], by simp, fun _ => endConfigError_respOk rfl hisa⟩
  obtain ⟨hmode, hroot⟩ := hrange mode root hr
  have snapshot : s.inp.cfgIsa = .rv32 → root.toNat < 2 ^ 22 ∧ s.inp.reqVaddr.toNat < 2 ^ 32 ∧ mode ≠ .sv39 := fun h => by
    refine ⟨hroot h, toNat_lt_of_upper_half (hc.1 h), ?_⟩
    obtain rfl | rfl := hmode <;> simp [h, walkMode]
  obtain ⟨hw, -⟩ | ⟨hw, hp, hb⟩ := hw
  · rw [hw]
    exact ⟨snapshot, by simp, fun _ => endOk_level_zero_respOk _ _ rfl⟩
  · rw [hw]
    exact ⟨snapshot, fun _ => startWalk_walkOk hp (hmode.resolve_left hb) rfl rfl hroot, by simp⟩

/-! ## The steps of a walk -/

/-- The count after an answered read: at least one read, and one for each level from the top to this one (R31, R259). -/
def Walker.countOk (w : Walker) : Prop := w.wReads.toNat ≠ 0 ∧ w.wReads.toNat + w.wLevel.toNat = levels w.cIsa

/-- No walk has more than three levels (R7). -/
theorem levels_le_three (isa : Isa) : levels isa ≤ 3 := by cases isa <;> decide

/-- The counter of a walk does not wrap at an answered read (R31). -/
theorem wReads_add_one {w : Walker} (hc : w.wReads.toNat + w.wLevel.toNat + 1 = levels w.cIsa) :
    (w.wReads + 1).toNat = w.wReads.toNat + 1 := by
  have hl := levels_le_three w.cIsa
  exact BitVec.toNat_add_of_lt (show w.wReads.toNat + 1 < 2 ^ 2 by omega)

/-- Above level 0 there is one level less below (R30). -/
theorem wLevel_sub_one {w : Walker} (h : w.wLevel ≠ 0) : (w.wLevel - 1).toNat + 1 = w.wLevel.toNat := by
  have hpos : 0 < w.wLevel.toNat := Nat.pos_of_ne_zero fun e => h (BitVec.eq_of_toNat_eq e)
  have hdown : (w.wLevel - 1).toNat = w.wLevel.toNat - 1 := BitVec.toNat_sub_of_le (BitVec.le_def.mpr hpos)
  omega

/-- A pointer PTE above level 0 takes the walk down (R168). -/
theorem pointerStep_above_zero {w : Walker} (pte : Word64) (h : w.wLevel ≠ 0) : w.pointerStep pte = w.descend pte := if_neg h

/-- A walk that has a level left to read can count its answer. -/
theorem Walker.walkOk.countOk_add_one {w : Walker} (h : w.walkOk) :
    (w.wReads + 1).toNat ≠ 0 ∧ (w.wReads + 1).toNat + w.wLevel.toNat = levels w.cIsa := by
  obtain ⟨-, -, hc, -, -⟩ := h
  rw [wReads_add_one hc]
  omega

/-- A fault at the level of the last read is a response of the right form (R170). -/
theorem endFault_respOk {d : Diag} {w : Walker} (hc : w.countOk) (hn : d ≠ .none) (hu : d ≠ .unsupportedMode) :
    (w.endFault d w.wLevel).respOk := by
  obtain ⟨h0, hs⟩ := hc
  exact ⟨fun h => absurd h h0, fun _ => hs, nofun, fun _ => ⟨rfl, hn, hu, rfl, rfl, h0⟩, nofun⟩

/-- A success at the level of the last read is a response of the right form (R172). -/
theorem endOk_respOk {w : Walker} (pa pte : Word64) (hc : w.countOk) : (w.endOk pa pte w.wLevel).respOk := by
  obtain ⟨h0, hs⟩ := hc
  exact ⟨fun h => absurd h h0, fun _ => hs, fun _ => ⟨rfl, rfl⟩, nofun, nofun⟩

/-- A read at a level below the top adds its level to the trace (R32). -/
theorem trace_below : ∀ (v : BitVec 3) (level : BitVec 2) (n : Nat), n ≤ 3 → level ≠ 0 → level.toNat < n →
    (∀ l : Fin 3, v.getLsbD l.val = (decide (level.toNat < l.val) && decide (l.val < n))) →
    ∀ l : Fin 3, (v ||| 1#3 <<< level.toNat).getLsbD l.val = (decide ((level - 1).toNat < l.val) && decide (l.val < n)) := by
  intro v level n hn
  interval_cases n <;> revert v level <;> decide

/-- A pointer PTE above level 0 leaves the walk in order one level down (R168). -/
theorem descend_walkOk {w : Walker} (pte : Word64) (h : w.walkOk) (h0 : w.wLevel ≠ 0) :
    ((w.recordPte (pteWord w.cIsa pte)).descend (pteWord w.cIsa pte)).walkOk := by
  have hcount := h.countOk_add_one.2
  obtain ⟨hp, hm, hc, ht, -⟩ := h
  have hdown := wLevel_sub_one h0
  refine ⟨hp, hm, ?_, trace_below w.tValid w.wLevel (levels w.cIsa) (levels_le_three w.cIsa) h0 (by omega) ht, fun hi => ?_⟩
  · simp only [descend_wReads, recordPte_wReads, descend_wLevel, recordPte_wLevel, descend_cIsa, recordPte_cIsa]
    omega
  · simp only [descend_cIsa, recordPte_cIsa] at hi
    simp only [descend_wFrame, recordPte_cIsa, hi]
    exact ptePpn_rv32_lt _

/-- What follows a recorded word ends with a response of the right form or leaves the walk in order (R168). -/
theorem receiveAct_ok (d : Word64) {w : Walker} (h : w.walkOk) :
    let w' := receiveAct d (pteWord w.cIsa d) (w.recordPte (pteWord w.cIsa d))
    (w'.fsm = .issue ∧ w'.walkOk) ∨ (w'.fsm = .resp ∧ w'.respOk) := by
  have hc : (w.recordPte (pteWord w.cIsa d)).countOk := h.countOk_add_one
  intro w'
  have hw' : w' = receiveAct d (pteWord w.cIsa d) (w.recordPte (pteWord w.cIsa d)) := rfl
  obtain ha | ha | ha | ha := receiveAct_cases d (pteWord w.cIsa d) (w.recordPte (pteWord w.cIsa d)) <;> rw [hw', ha]
  · exact .inr ⟨rfl, endFault_respOk hc nofun nofun⟩
  · exact .inr ⟨rfl, endFault_respOk hc nofun nofun⟩
  · obtain ⟨e, he, hn, hu⟩ | he := leafStep_cases (pteWord w.cIsa d) (w.recordPte (pteWord w.cIsa d)) <;> rw [he]
    · exact .inr ⟨rfl, endFault_respOk hc hn hu⟩
    · exact .inr ⟨rfl, endOk_respOk _ _ hc⟩
  · by_cases h0 : w.wLevel = 0
    · have he := endFault_respOk (d := .noLeaf) hc nofun nofun
      rw [recordPte_wLevel, h0] at he
      rw [pointerStep_level_zero (w := w.recordPte _) _ h0]
      exact .inr ⟨rfl, he⟩
    · rw [pointerStep_above_zero (w := w.recordPte _) _ h0]
      exact .inl ⟨rfl, descend_walkOk d h h0⟩

/-! ## Every step -/

section
variable {s t : State}

/-- Every step keeps the invariant of the registers. -/
theorem step_keeps_walker_inv (h : step s = .next t) (hi : s.w.inv) : t.w.inv := by
  obtain ⟨-, -, hcases⟩ := step_walker h
  obtain ⟨hsnap, hwalk, hresp⟩ := hi
  rcases hcases with ⟨-, hw, -⟩ | ⟨-, hw, -⟩ | ⟨-, hc, -, hw⟩ | ⟨-, hf, -, -, -, hw, -⟩ | ⟨-, hf, -, -, hw, -⟩ |
    ⟨-, hf, -, -, -, d, -, hw⟩ | ⟨-, -, -, -, hw, -⟩
  · rw [hw]
    exact ⟨by decide, by decide, by decide⟩
  · rw [hw]
    exact ⟨hsnap, hwalk, hresp⟩
  · rw [hw]
    exact acceptedWalker_inv hc
  · rw [hw]
    exact ⟨hsnap, fun _ => hwalk (.inl hf), nofun⟩
  · rw [hw]
    have hc : ({ s.w with wReads := s.w.wReads + 1 } : Walker).countOk := (hwalk (.inr hf)).countOk_add_one
    exact ⟨hsnap, nofun, fun _ => endFault_respOk hc nofun nofun⟩
  · have frame := receiveAct_frame d (pteWord s.w.cIsa d) (s.w.recordPte (pteWord s.w.cIsa d))
    rw [← hw] at frame
    obtain ⟨-, -, hva, hisa, hmode, hroot, -⟩ := frame
    refine ⟨by rw [hva, hisa, hmode, hroot]; exact hsnap, ?_⟩
    have hok := receiveAct_ok d (hwalk (.inr hf))
    simp only [← hw] at hok
    obtain ⟨hfsm, hok⟩ | ⟨hfsm, hok⟩ := hok
    · exact ⟨fun _ => hok, by simp [hfsm]⟩
    · exact ⟨by simp [Walker.walking, hfsm], fun _ => hok⟩
  · rw [hw]
    exact ⟨hsnap, nofun, nofun⟩

/-- Every step keeps the recorded reads aligned: it records none, or that of the PTE address of the registers (R167). -/
theorem step_keeps_histAligned (h : step s = .next t) (hi : histAligned s.hist) : histAligned t.hist := by
  have issued : histAligned (⟨s.w.readAddr, ptesize s.w.cIsa, s.w.wLevel⟩ :: s.hist) := by
    refine List.forall_mem_cons.mpr ⟨⟨?_, pteAddr_aligned s.w.cIsa s.w.wFrame s.w.qVaddr s.w.wLevel.toNat⟩, hi⟩
    cases s.w.cIsa <;> simp [ptesize]
  obtain ⟨-, -, hcases⟩ := step_walker h
  rcases hcases with ⟨-, -, hh⟩ | ⟨-, -, hh, -⟩ | ⟨-, -, hh, -⟩ | ⟨-, -, -, -, -, -, hh⟩ | ⟨-, -, -, -, -, hh⟩ |
    ⟨-, -, -, hh, -⟩ | ⟨-, -, -, -, -, hh⟩ <;> rw [hh]
  case inr.inr.inr.inl => exact issued
  all_goals exact hi

end

/-! ## The obligations -/

/-- Settles O40, part by part: the registers, the image, the recorded reads. -/
theorem stepKeepsInvariant : Obligations.StepKeepsInvariant := by
  unfold Obligations.StepKeepsInvariant
  intro s t ⟨hw, hm, hh⟩ h
  refine ⟨step_keeps_walker_inv h hw, ?_, step_keeps_histAligned h hh⟩
  obtain ⟨hmem, -⟩ := step_walker h
  rw [hmem]
  exact storeBytes_wf s.mem s.inp.envStores hm

/-- Settles O41: after reset no walk and no response is under way. -/
theorem resetMeetsInvariant : Obligations.ResetMeetsInvariant := by
  unfold Obligations.ResetMeetsInvariant
  exact ⟨⟨by decide, by decide, by decide⟩, reset_mem_wf, by decide⟩

end Sys2Proof.Machine

/-! Steps and stops: what each step runs, when it is refused, what it can change, and how near the response is
(43_walk.md section 2, 93_implementation_defined.md). -/

namespace Sys2Proof.Machine

/-! ## Stops -/

section
variable {r : Result}

theorem thenTick_eq_fault {f : Fault} : thenTick r = .fault f ↔ r = .fault f := by
  cases r <;> simp [thenTick]

theorem thenTick_eq_refused {x : Refusal} : thenTick r = .refused x ↔ r = .refused x := by
  cases r <;> simp [thenTick]

end

section
variable {s : State} {purpose : Purpose} {priv : Priv} {va : Word64}

/-- Accepting a request never ends in a fault. -/
theorem acceptRequest_ne_fault (f : Fault) : acceptRequest purpose priv va s ≠ .fault f := by
  unfold acceptRequest
  split
  · exact nofun
  · split
    · exact nofun
    · split <;> exact nofun

/-- A busy walker accepts no request, and running one changes nothing (R21, log entry 10). -/
theorem acceptRequest_busy (hf : s.w.fsm ≠ .idle) : acceptRequest purpose priv va s = .next s := if_pos hf

/-- An RV32 request with a nonzero upper address half is refused first (R47, log entry 8). -/
theorem acceptRequest_highVaddr (hf : s.w.fsm = .idle) (hi : s.inp.cfgIsa = .rv32) (hv : va.extractLsb' 32 32 ≠ 0) :
    acceptRequest purpose priv va s = .refused .rv32HighVaddr := by
  rw [acceptRequest, if_neg (not_not_intro hf), if_pos ⟨hi, hv⟩]

/-- A request at the reserved level is refused next, when the parameter says so (U8, log entry 9). -/
theorem acceptRequest_rsvd (hf : s.w.fsm = .idle) (hv : s.inp.cfgIsa = .rv32 → va.extractLsb' 32 32 = 0) (hp : priv = .rsvd)
    (hr : s.rsvdPriv = .refuse) : acceptRequest purpose priv va s = .refused .rsvdPrivRefused := by
  rw [acceptRequest, if_neg (not_not_intro hf), if_neg (fun ⟨hi, hn⟩ => hn (hv hi)), if_pos ⟨hp, hr⟩]

/-- When an idle walker refuses a request (R47, U7, U8). -/
theorem acceptRequest_eq_refused_iff (x : Refusal) (hf : s.w.fsm = .idle) :
    acceptRequest purpose priv va s = .refused x ↔
      (s.inp.cfgIsa = .rv32 ∧ va.extractLsb' 32 32 ≠ 0 ∧ x = .rv32HighVaddr) ∨
      ((s.inp.cfgIsa = .rv32 → va.extractLsb' 32 32 = 0) ∧ priv = .rsvd ∧ s.rsvdPriv = .refuse ∧ x = .rsvdPrivRefused) := by
  rw [acceptRequest, if_neg (not_not_intro hf)]
  split
  case isTrue hv => grind
  case isFalse hv =>
    split
    case isTrue hr => grind
    case isFalse hr => grind

/-- A received word answers a fault only to a waiting walker at a level its ISA width does not have (R100). -/
theorem receivePte_eq_fault {data : Word64} {act : Word64 → Walker → Walker} {f : Fault} (h : receivePte data act s = .fault f) :
    s.w.fsm = .wait ∧ levels s.w.cIsa ≤ s.w.wLevel.toNat := by
  unfold receivePte at h
  split at h
  · cases h
  · rename_i hf
    split at h
    · exact ⟨not_not.mp hf, by assumption⟩
    · cases h

/-- A waiting walker stops at a level its ISA width does not have (R100, log entry 15). -/
theorem receivePte_outOfRange {data : Word64} {act : Word64 → Walker → Walker} (hf : s.w.fsm = .wait)
    (hl : levels s.w.cIsa ≤ s.w.wLevel.toNat) : receivePte data act s = .fault .levelOutOfRange := by
  rw [receivePte, if_neg (not_not_intro hf), if_pos hl]

/-- A waiting walker refuses no word. -/
theorem receivePte_ne_refused {data : Word64} {act : Word64 → Walker → Walker} (hf : s.w.fsm = .wait) (x : Refusal) :
    receivePte data act s ≠ .refused x := by
  rw [receivePte, if_neg (not_not_intro hf)]
  split <;> exact nofun

/-- A walker that does not wait refuses every word (R53, U6). -/
theorem receivePte_outsideWait {data : Word64} {act : Word64 → Walker → Walker} (hf : s.w.fsm ≠ .wait) :
    receivePte data act s = .refused .memResponseOutsideWait := if_pos hf

/-- A level the ISA width does not have stops the issue step (R100, log entry 15). -/
theorem issueStep_outOfRange (hl : levels s.w.cIsa ≤ s.w.wLevel.toNat) : issueStep s = .fault .levelOutOfRange := if_pos hl

end

/-! ## What a step runs -/

section
variable {s t : State}

/-- The step of an accepting walker is the run of the request on its ports (R165). -/
theorem step_accepting (ha : s.accepting) :
    step s = thenTick (acceptRequest (Purpose.ofCode s.inp.reqPurpose) (Priv.ofCode s.inp.reqPriv) s.inp.reqVaddr s) := by
  obtain ⟨hr, hm, hf, hv⟩ := ha
  have hact : action s = .run (decode s.inp.requestWord) := by simp [action, hr, hm, hf, hv]
  simp only [step, hact, decode_requestWord, exec_requestInstr]

/-- The step of a waiting walker with an answered word is the run of that word (R168). -/
theorem step_receiving {data : Word64} (hr : s.inp.rst = false) (hf : s.w.fsm = .wait) (hm : s.inp.memRespValid = true)
    (hd : readerAnswer s = some data) : step s = thenTick (exec (decode (.pte data)) s) := by
  have hact : action s = .run (decode (.pte data)) := by simp [action, hr, hf, hm, hd]
  simp only [step, hact]

/-- A step that runs an instruction is an acceptance or the receipt of a word (R165, R168). -/
theorem action_run_cases {i : Instr} (h : action s = .run i) :
    (s.accepting ∧ i = requestInstr (Purpose.ofCode s.inp.reqPurpose) (Priv.ofCode s.inp.reqPriv) s.inp.reqVaddr) ∨
    (s.w.fsm = .wait ∧ ∃ d, i = decode (.pte d)) := by
  rw [← decode_requestWord]
  rcases action_cases s with ⟨-, ha⟩ | ⟨-, -, -, ha⟩ | ⟨hr, hm, hf, ha⟩ | ⟨-, -, -, ha⟩ | ⟨-, -, -, ha⟩ |
    ⟨hr, hm, hf, ⟨-, ha⟩ | ⟨d, hd, ha⟩⟩ | ⟨-, -, -, ha⟩ <;>
    simp only [ha, ite_eq_iff, reduceCtorEq, and_false, or_false, Action.run.injEq] at h
  · exact .inl ⟨⟨hr, hm, hf, h.1⟩, h.2.symm⟩
  · exact .inr ⟨hf, d, h.symm⟩

/-- A step that takes a read is one of `ISSUE` (R167). -/
theorem action_eq_issue (h : action s = .issue) : s.w.fsm = .issue := by
  rcases action_cases s with ⟨-, ha⟩ | ⟨-, -, -, ha⟩ | ⟨-, -, -, ha⟩ | ⟨-, -, hf, -⟩ | ⟨-, -, -, ha⟩ |
    ⟨-, -, -, ⟨-, ha⟩ | ⟨d, -, ha⟩⟩ | ⟨-, -, -, ha⟩
  case inr.inr.inr.inl => exact hf
  all_goals simp [ha, ite_eq_iff] at h

/-- A step answers a fault only in a walk at a level the ISA width does not have (log entry 15). -/
theorem step_eq_fault {f : Fault} (h : step s = .fault f) : s.w.walking ∧ levels s.w.cIsa ≤ s.w.wLevel.toNat := by
  cases ha : action s <;> simp only [step, ha, reduceCtorEq, thenTick_eq_fault] at h
  case run i =>
    obtain ⟨-, rfl⟩ | ⟨-, d, rfl⟩ := action_run_cases ha
    · rw [exec_requestInstr] at h
      exact absurd h (acceptRequest_ne_fault f)
    · rw [exec_decode_pte] at h
      obtain ⟨hf, hl⟩ := receivePte_eq_fault h
      exact ⟨.inr hf, hl⟩
  case issue =>
    refine ⟨.inl (action_eq_issue ha), ?_⟩
    by_contra hl
    rw [issueStep, if_neg hl] at h
    cases h

/-- The issue step is never refused. -/
theorem issueStep_ne_refused (x : Refusal) : issueStep s ≠ .refused x := by
  unfold issueStep
  split <;> exact nofun

end

/-! ## What an instruction can change -/

/-- Every `PTE` row is a receive step, with an action of its class (R168). -/
theorem exec_pteRow {i : Instr} {data : Word64}
    (hi : i ∈ [Instr.pteInvalid data, .pteReservedWnr data, .ptePointer data, .pteLeafR data, .pteLeafXo data]) :
    ∃ act, ∀ s, exec i s = receivePte data act s := by
  simp only [List.mem_cons, List.not_mem_nil, or_false] at hi
  obtain rfl | rfl | rfl | rfl | rfl := hi
  · exact ⟨fun _ w => w.endFault .pteInvalid w.wLevel, fun _ => rfl⟩
  · exact ⟨fun _ w => w.endFault .pteReservedWnr w.wLevel, fun _ => rfl⟩
  · exact ⟨fun pte w => w.pointerStep pte, fun _ => rfl⟩
  · exact ⟨fun pte w => w.leafStep pte, fun _ => rfl⟩
  · exact ⟨fun pte w => w.leafStep pte, fun _ => rfl⟩

/-- An instruction that answers a next state writes registers of the block and nothing else (R51). -/
theorem exec_next_onWalker {i : Instr} {s t : State} (h : exec i s = .next t) : ∃ f, t = s.onWalker f := by
  have root : ∀ {f : Walker → Walker}, Host.Outcome.next (s.onWalker f) = (.next t : Result) → ∃ f, t = s.onWalker f :=
    fun h => ⟨_, by injection h with h; exact h.symm⟩
  have request : ∀ {purpose priv va}, acceptRequest purpose priv va s = .next t → ∃ f, t = s.onWalker f := fun h => by
    obtain ⟨-, rfl⟩ | ⟨-, -, -, rfl⟩ := acceptRequest_next h
    · exact ⟨id, rfl⟩
    · exact ⟨_, rfl⟩
  have received : ∀ {data},
      i ∈ [Instr.pteInvalid data, .pteReservedWnr data, .ptePointer data, .pteLeafR data, .pteLeafXo data] →
        ∃ f, t = s.onWalker f := fun hi => by
    obtain ⟨act, hact⟩ := exec_pteRow hi
    obtain ⟨-, -, rfl⟩ := receivePte_next (hact s ▸ h)
    exact ⟨_, rfl⟩
  cases i with
  | translateFetch | translateLoad | translateStoreamo | translateDeleg => exact request h
  | pteInvalid data | pteReservedWnr data | ptePointer data | pteLeafR data | pteLeafXo data =>
    exact received (data := data) (by simp)
  | _ => exact root h

/-! ## What a step reads of its inputs -/

section
variable {s : State} {inp inp' : Inputs} (hstores : inp.envStores = inp'.envStores)
include hstores

/-- Of the inputs, the receipt of a word reads nothing; the next state passes them (R22). -/
theorem thenTick_receivePte_inp (data : Word64) (act : Word64 → Walker → Walker) :
    thenTick (receivePte data act { s with inp := inp }) = thenTick (receivePte data act { s with inp := inp' }) := by
  unfold receivePte
  split
  · rfl
  · split
    · rfl
    · simp [tick, State.onWalker, hstores]

/-- Two steps that follow the same rule from the same registers are the same step, if the configuration is the same when a request
is accepted (R22). -/
theorem step_inp_congr (hact : action { s with inp := inp } = action { s with inp := inp' })
    (hcfg : s.w.fsm = .idle →
      inp.cfgIsa = inp'.cfgIsa ∧ inp.cfgSatp = inp'.cfgSatp ∧ inp.cfgSum = inp'.cfgSum ∧ inp.cfgMxr = inp'.cfgMxr) :
    step { s with inp := inp } = step { s with inp := inp' } := by
  have pass : ∀ w hist, tick { s with w := w, hist := hist, inp := inp } = tick { s with w := w, hist := hist, inp := inp' } :=
    fun w hist => by simp [tick, hstores]
  unfold step
  rw [hact]
  cases ha : action { s with inp := inp' } with
  | run i =>
    obtain ⟨⟨-, -, hf, -⟩, rfl⟩ | ⟨-, d, rfl⟩ := action_run_cases ha
    · obtain ⟨hi, hs, hsum, hmxr⟩ := hcfg hf
      simp only [exec_requestInstr, acceptRequest, hi, hs, hsum, hmxr, State.onWalker]
      split
      · exact congrArg Host.Outcome.next (pass s.w s.hist)
      · split
        · rfl
        · split
          · rfl
          · exact congrArg Host.Outcome.next (pass _ s.hist)
    · simp only [exec_decode_pte]
      exact thenTick_receivePte_inp hstores d (receiveAct d)
  | issue =>
    simp only [issueStep]
    split
    · rfl
    · exact congrArg Host.Outcome.next (pass _ _)
  | refuse r => rfl
  | reset => exact congrArg Host.Outcome.next (pass _ s.hist)
  | hold => exact congrArg Host.Outcome.next (pass s.w s.hist)
  | readError => exact congrArg Host.Outcome.next (pass _ s.hist)
  | deliver => exact congrArg Host.Outcome.next (pass _ s.hist)

end

/-! ## The measure of a walk -/

section
variable {w : Walker}

theorem stepsLeft_resp (h : w.fsm = .resp) : w.stepsLeft = 0 := by simp [Walker.stepsLeft, h]

theorem stepsLeft_issue (h : w.fsm = .issue) : w.stepsLeft = 2 * w.wLevel.toNat + 2 := by simp [Walker.stepsLeft, h]

theorem stepsLeft_wait (h : w.fsm = .wait) : w.stepsLeft = 2 * w.wLevel.toNat + 1 := by simp [Walker.stepsLeft, h]

end

/-- A received word ends the request, or leaves fewer levels below (R168). -/
theorem stepsLeft_receiveAct_lt {d pte : Word64} {w : Walker} (hf : w.fsm = .wait) :
    (receiveAct d pte w).stepsLeft < w.stepsLeft := by
  rw [stepsLeft_wait hf]
  have ended : ∀ {w' : Walker}, w'.fsm = .resp → w'.stepsLeft < 2 * w.wLevel.toNat + 1 := fun h => by
    rw [stepsLeft_resp h]; omega
  obtain ha | ha | ha | ha := receiveAct_cases d pte w <;> rw [ha]
  · exact ended rfl
  · exact ended rfl
  · obtain ⟨e, he, -⟩ | he := leafStep_cases pte w <;> rw [he] <;> exact ended rfl
  · by_cases h0 : w.wLevel = 0
    · rw [pointerStep_level_zero pte h0]
      exact ended rfl
    · have hdown := wLevel_sub_one h0
      rw [pointerStep_above_zero pte h0, stepsLeft_issue (descend_fsm pte w), descend_wLevel]
      omega

/-! ## The obligations -/

/-- Settles O37: the two decoding steps, and what the passing of the inputs leaves. -/
theorem stepRunsTheDecodedInstruction : Obligations.StepRunsTheDecodedInstruction := by
  unfold Obligations.StepRunsTheDecodedInstruction
  refine ⟨fun s ha => ?_, fun s data hr hf hm hd => step_receiving hr hf hm hd,
    fun s => ⟨rfl, rfl, rfl, rfl, rfl, rfl, rfl⟩⟩
  rw [step_accepting ha, ← exec_requestInstr, ← decode_requestWord]
  rfl

/-- Settles O42: a fault needs a walk at a level the ISA width does not have, and the invariant bounds the level of a walk. -/
theorem stepFromInvariantNeverFaults : Obligations.StepFromInvariantNeverFaults := by
  unfold Obligations.StepFromInvariantNeverFaults
  rintro s f ⟨⟨-, hwalk, -⟩, -, -⟩ h
  obtain ⟨hw, hl⟩ := step_eq_fault h
  obtain ⟨-, -, hcount, -, -⟩ := hwalk hw
  omega

/-- Settles O43, by the rule the step follows: only a stray response and an acceptance can be refused. -/
theorem stepRefusesExactlyOutsideContract : Obligations.StepRefusesExactlyOutsideContract := by
  unfold Obligations.StepRefusesExactlyOutsideContract
  intro s x
  have rsvd : ∀ c : BitVec 2, Priv.ofCode c = .rsvd ↔ c = 2 := by decide
  rcases action_cases s with ⟨hr, ha⟩ | ⟨hr, hm, hf, ha⟩ | ⟨hr, hm, hf, ha⟩ | ⟨hr, hm, hf, ha⟩ | ⟨hr, hm, hf, ha⟩ |
    ⟨hr, hm, hf, ⟨hn, ha⟩ | ⟨d, hd, ha⟩⟩ | ⟨hr, hm, hf, ha⟩
  · simp [step, ha, hr]
  · simp [step, ha, hr, hm, hf, eq_comm (a := x)]
  · cases hv : s.inp.reqValid
    case false => simp [step, ha, hv, hm]
    case true =>
      have hacc : s.accepting := ⟨hr, hm, hf, hv⟩
      rw [step_accepting hacc, thenTick_eq_refused, acceptRequest_eq_refused_iff x hf]
      simp only [State.accepting, hr, hm, hf, hv, rsvd, Bool.false_eq_true, false_and, false_or, true_and]
  · cases hy : s.inp.memReqReady
    case false => simp [step, ha, hy, hm, hf]
    case true => simp [step, ha, hy, hm, hf, thenTick_eq_refused, issueStep_ne_refused]
  · simp [step, ha, hm, hf]
  · simp [step, ha, hf]
  · rw [step_receiving hr hf hm hd, thenTick_eq_refused, exec_decode_pte]
    simp [receivePte_ne_refused hf, hf]
  · cases hy : s.inp.rspReady <;> simp [step, ha, hy, hm, hf]

/-- Settles O44, by `exec_next_onWalker`. -/
theorem instructionsChangeOnlyRegisters : Obligations.InstructionsChangeOnlyRegisters := by
  unfold Obligations.InstructionsChangeOnlyRegisters
  intro i s t h
  obtain ⟨f, rfl⟩ := exec_next_onWalker h
  exact ⟨rfl, rfl, fun _ => rfl, rfl, rfl, rfl⟩

/-- Settles O45: of the steps of `step_walker` only the issue step records a read. -/
theorem blockOnlyReadsPteAddresses : Obligations.BlockOnlyReadsPteAddresses := by
  unfold Obligations.BlockOnlyReadsPteAddresses
  intro s t h
  obtain ⟨hmem, -, hcases⟩ := step_walker h
  refine ⟨hmem, ?_⟩
  rcases hcases with ⟨-, -, hh⟩ | ⟨-, -, hh, -⟩ | ⟨-, -, hh, -⟩ | ⟨-, hf, hy, -, -, hw, hh⟩ | ⟨-, -, -, -, -, hh⟩ |
    ⟨-, -, -, hh, -⟩ | ⟨-, -, -, -, -, hh⟩
  case inr.inr.inr.inl =>
    rw [← ptesize_eq_ite]
    exact .inr ⟨hf, hy, by rw [hw], hh⟩
  all_goals exact .inl hh

/-- Settles O47, by `step_inp_congr`: the rule that a busy walker follows does not look at the request and the configuration. -/
theorem busyStepIgnoresRequestAndConfiguration : Obligations.BusyStepIgnoresRequestAndConfiguration := by
  unfold Obligations.BusyStepIgnoresRequestAndConfiguration
  intro s valid purpose priv va satp isa sum mxr hbusy
  refine step_inp_congr (inp' := s.inp) rfl ?_ (fun hf => absurd hf hbusy)
  unfold action
  cases hf : s.w.fsm
  case idle => exact absurd hf hbusy
  all_goals rfl

/-- Settles O51: each step of a walk that is not a hold lowers the measure, which starts at two steps a level. -/
theorem walkStepsBringTheResponseNearer : Obligations.WalkStepsBringTheResponseNearer := by
  unfold Obligations.WalkStepsBringTheResponseNearer
  refine ⟨fun s t h hr hw => ?_, fun s t h ha => ?_⟩
  · obtain hf | hf := hw
    · obtain ⟨hw, -⟩ | hw := step_of_issue h hr hf
      · exact .inl hw
      · rw [hw, stepsLeft_issue hf, stepsLeft_wait rfl]
        exact .inr (Nat.lt_succ_self _)
    · obtain ⟨-, ⟨-, hw⟩ | ⟨-, -, hw⟩ | ⟨-, d, -, hw⟩⟩ := step_of_wait h hr hf
      · exact .inl hw
      · rw [hw, stepsLeft_wait hf, stepsLeft_resp rfl]
        exact .inr (Nat.succ_pos _)
      · rw [hw]
        exact .inr (stepsLeft_receiveAct_lt (w := s.w.recordPte (pteWord s.w.cIsa d)) hf)
  · rw [step_of_accepting h ha]
    have ended : ∀ {w : Walker} {n : Nat}, w.fsm = .resp → w.stepsLeft ≤ n ∧ (w.stepsLeft = 0 → w.fsm = .resp) :=
      fun hf => ⟨by rw [stepsLeft_resp hf]; exact Nat.zero_le _, fun _ => hf⟩
    obtain ⟨-, hw⟩ | ⟨mode, root, -, ⟨hw, -⟩ | ⟨hw, -⟩⟩ := acceptedWalker_cases s <;> rw [hw]
    · exact ended rfl
    · exact ended rfl
    · rw [stepsLeft_issue rfl]
      refine ⟨?_, nofun⟩
      simp only [startWalk_wLevel, latchConfig_cIsa, latchRequest_cIsa]
      cases s.inp.cfgIsa <;> decide

/-- Settles O34: a reset step writes every register and nothing else of the block's. -/
theorem resetOverridesEveryStep : Obligations.ResetOverridesEveryStep := by
  unfold Obligations.ResetOverridesEveryStep
  intro s hr
  have ha : action s = .reset := by simp [action, hr]
  refine ⟨tick (resetStep s), by simp only [step, ha], rfl, rfl, rfl, rfl, by simp [reqReady, hr]⟩

/-- Settles O36, by the walker state: it decides which ports have a meaning. -/
theorem outputsFollowTheRegisters : Obligations.OutputsFollowTheRegisters := by
  unfold Obligations.OutputsFollowTheRegisters
  intro s
  rw [← isaCode_eq_ite]
  cases hf : s.w.fsm <;>
    simp [reqReady, busy, fatalCfg, memReqValid, rspValid, memReq, response, Walker.readAddr, hf]

/-- Settles O57: code by code, and over the values of each type. -/
theorem enumerationCodesAreThoseOfThePorts : Obligations.EnumerationCodesAreThoseOfThePorts := by
  unfold Obligations.EnumerationCodesAreThoseOfThePorts
  refine ⟨by decide, by decide, by decide, by decide, by decide, by decide, by decide, fun k => ?_, fun d => ?_, fun m => ?_⟩
  · cases k <;> decide
  · cases d <;> decide
  · cases m <;> decide

/-- Settles O26, by `exec_decode_pte`: every class runs the receive step. -/
theorem pteOutsideWaitIsRefused : Obligations.PteOutsideWaitIsRefused := by
  unfold Obligations.PteOutsideWaitIsRefused
  intro s data hf
  rw [exec_decode_pte, receivePte_outsideWait hf]

/-- Settles O27: the guard of the receive step and that of the issue step. -/
theorem levelsTheIsaLacksStopByName : Obligations.LevelsTheIsaLacksStopByName := by
  unfold Obligations.LevelsTheIsaLacksStopByName
  refine fun s hl => ⟨fun hf data => ?_, fun hr hm hf hy => ?_⟩
  · intro i hi
    obtain ⟨act, hact⟩ := exec_pteRow hi
    rw [hact, receivePte_outOfRange hf hl]
  · have ha : action s = .issue := by simp [action, hr, hm, hf, hy]
    simp only [step, ha, issueStep_outOfRange hl, thenTick_fault]

end Sys2Proof.Machine

/-! The root register and the accept step: a row of the root register is what the refresh does with its word, and the accept step
is the latch, that row, and the dispatch (41_refresh_config.md, 43_walk.md R165). -/

namespace Sys2Proof.Machine

/-! ## The rows of the root register -/

/-- What the refresh does to the registers: mode and root frame are latched, or the request ends with a configuration error
(R120, R121, R123). -/
def Walker.refresh (cfg : Option (Mode × Frame)) (w : Walker) : Walker :=
  match cfg with
  | none => w.endConfigError
  | some (mode, root) => w.latchConfig mode root

/-- A `SATP64` row does what the refresh does with its mode and frame number (R121, R123). -/
theorem exec_rootRow64 (mode : BitVec 4) (ign : BitVec 16) (ppn : BitVec 44) (s : State) :
    exec (rootRow64 mode ign ppn) s =
      .next (s.onWalker (Walker.refresh
        (if mode = 0x0#4 then some (.bare, ppn) else if mode = 0x8#4 then some (.sv39, ppn) else none))) := by
  obtain ⟨⟨m, hm⟩⟩ := mode
  interval_cases m <;> rfl

/-- The row of a root register does what the refresh does with its word (R120, R121, log entry 11). -/
theorem exec_decodeRoot (isa : Isa) (satp : Word64) (s : State) :
    exec (decodeRoot isa satp) s = .next (s.onWalker (Walker.refresh (refreshConfig isa satp))) := by
  cases isa with
  | rv32 =>
    have bit : (satp.extractLsb' 0 32).getLsbD 31 = satp.getLsbD 31 := by simp
    have frame : (satp.extractLsb' 0 32).extractLsb' 0 22 = satp.extractLsb' 0 22 :=
      BitVec.eq_of_getLsbD_eq fun k hk => by simp [hk]
    simp only [decodeRoot, decodeRoot32, refreshConfig, bit, frame]
    cases satp.getLsbD 31 <;> rfl
  | rv64 => exact exec_rootRow64 _ _ _ s

theorem refreshConfig_rv64_bare {satp : Word64} (h : satp.extractLsb' 60 4 = 0x0#4) :
    refreshConfig .rv64 satp = some (.bare, satp.extractLsb' 0 44) := if_pos h

theorem refreshConfig_rv64_sv39 {satp : Word64} (h : satp.extractLsb' 60 4 = 0x8#4) :
    refreshConfig .rv64 satp = some (.sv39, satp.extractLsb' 0 44) := by
  simp [refreshConfig, h]

theorem refreshConfig_rv64_unsupported {satp : Word64} (h0 : satp.extractLsb' 60 4 ≠ 0x0#4) (h8 : satp.extractLsb' 60 4 ≠ 0x8#4) :
    refreshConfig .rv64 satp = none := by
  rw [refreshConfig, if_neg h0, if_neg h8]

/-! ## The accept step -/

/-- The step of a request inside the contract latches it, refreshes and dispatches (R165). -/
theorem step_accepting_inContract {s : State} (ha : s.accepting) (hc : s.requestInContract) :
    step s = .next (tick (s.onWalker fun _ => acceptedWalker s)) := by
  have ⟨_, _, hf, _⟩ := ha
  obtain ⟨hva, hpriv⟩ := hc
  rw [step_accepting ha, acceptRequest_idle hf hva hpriv]
  rfl

/-- Refresh and dispatch are the row of the root register and, unless that ended the request, the dispatch (R165). -/
theorem refreshAndDispatch_eq_refresh (cfg : Option (Mode × Frame)) {w : Walker} (hf : w.fsm = .idle) :
    w.refreshAndDispatch cfg = if (w.refresh cfg).fsm = .resp then w.refresh cfg else (w.refresh cfg).dispatch := by
  match cfg with
  | none => rfl
  | some (mode, root) =>
    have hne : (w.refresh (some (mode, root))).fsm ≠ .resp := by simp [Walker.refresh, hf]
    rw [if_neg hne]
    rfl

/-- A request at a translated level under a translating mode starts a walk once its configuration is latched (R143). -/
theorem refreshAndDispatch_eq_startWalk (w : Walker) {mode : Mode} (root : Frame) (hp : excludedFromTranslation w.qPriv = false)
    (hm : mode ≠ .bare) : w.refreshAndDispatch (some (mode, root)) = (w.latchConfig mode root).startWalk := by
  obtain ⟨-, he⟩ | ⟨hd, -⟩ := dispatch_cases (w.latchConfig mode root)
  · exact absurd he (by simp [hp, hm])
  · exact hd

/-- The top level, by the ISA width (R7). -/
theorem topLevel_eq_ite (isa : Isa) : topLevel isa = if isa = .rv32 then 1 else 2 := by
  cases isa <;> rfl

/-! ## Placing a word -/

/-- The level of a placed root register's request is one the parameter does not refuse (U8). -/
theorem placedPriv_inContract (s : State) : Priv.ofCode s.placedPriv = .rsvd → s.rsvdPriv = .identity := by
  unfold State.placedPriv
  split
  · exact nofun
  · rename_i h
    intro hp
    have rsvd : ∀ c : BitVec 2, Priv.ofCode c = .rsvd → c = 2 := by decide
    cases hr : s.rsvdPriv
    · rfl
    · exact absurd ⟨rsvd _ hp, hr⟩ h

/-- A table word that is a port word is placed as that port word, and decoded as it (log entry 14). -/
theorem withFetchWord_of_tableWord (s : State) {nbits w : Nat} {p : PortWord} (hp : tableWord nbits w = .ok p) :
    s.withFetchWord nbits w = placeWord s p ∧ decodeTableWord nbits w = some (decode p) := by
  simp only [State.withFetchWord, placeTableWord, decodeTableWord, hp, and_self]

/-- A 32-bit word on the root-register port is itself the root register under RV32. -/
theorem decodeRoot_setWidth (satp : BitVec 32) : decodeRoot .rv32 (satp.setWidth 64) = decodeRoot32 satp := by
  have cut : (satp.setWidth 64).extractLsb' 0 32 = satp :=
    BitVec.eq_of_getLsbD_eq fun k hk => by simp [hk, show k < 64 by omega]
  rw [decodeRoot, cut]

/-! ## The obligations -/

/-- Settles O8, by `exec_decodeRoot`. -/
theorem sv32RootRegisterRefresh : Obligations.Sv32RootRegisterRefresh := by
  unfold Obligations.Sv32RootRegisterRefresh
  exact fun satp s => ⟨exec_decodeRoot .rv32 satp s, rfl⟩

/-- Settles O9: `exec_decodeRoot` with the refresh of each MODE. -/
theorem sv39RootRegisterRefresh : Obligations.Sv39RootRegisterRefresh := by
  unfold Obligations.Sv39RootRegisterRefresh
  intro satp s
  rw [exec_decodeRoot]
  refine ⟨fun h => ?_, fun h => ?_, fun h0 h8 => ?_⟩
  · rw [refreshConfig_rv64_bare h]
    exact ⟨rfl, rfl⟩
  · rw [refreshConfig_rv64_sv39 h]
    exact ⟨rfl, rfl⟩
  · rw [refreshConfig_rv64_unsupported h0 h8]
    exact ⟨rfl, rfl⟩

/-- Settles O10: each row is its latch. -/
theorem supportedRootRowsLatchModeAndFrame : Obligations.SupportedRootRowsLatchModeAndFrame := by
  unfold Obligations.SupportedRootRowsLatchModeAndFrame
  exact fun s ign9 ppn22 ign16 ppn44 => ⟨rfl, rfl, rfl, rfl⟩

/-- Settles O11: each of the rows ends the request with the writes of R123. -/
theorem unsupportedRootRowsEndTheRequest : Obligations.UnsupportedRootRowsEndTheRequest := by
  unfold Obligations.UnsupportedRootRowsEndTheRequest
  intro s ign ppn
  simp only [List.forall_mem_cons]
  exact ⟨rfl, rfl, rfl, rfl, rfl, rfl, rfl, rfl, rfl, rfl, rfl, rfl, rfl, rfl, nofun⟩

/-- Settles O14: the accept step at a translated level under a translating mode. -/
theorem translatedRequestStartsWalk : Obligations.TranslatedRequestStartsWalk := by
  unfold Obligations.TranslatedRequestStartsWalk
  intro i purpose priv va mode root s hi hf hv hp hc hm
  obtain ⟨hx, hr⟩ : excludedFromTranslation priv = false ∧ (priv = .rsvd → s.rsvdPriv = .identity) := by
    obtain rfl | rfl := hp <;> exact ⟨rfl, nofun⟩
  have hw := refreshAndDispatch_eq_startWalk (s.w.latchRequest purpose priv va s.inp.cfgIsa s.inp.cfgSum s.inp.cfgMxr) root hx hm
  rw [exec_requestOp_idle hi hf hv hr, hc, ← topLevel_eq_ite]
  simp only [State.onWalker, hw]
  rfl

/-- Settles O15: a root register that does not decode ends the request before the dispatch. -/
theorem unsupportedModeEndsEveryRequest : Obligations.UnsupportedModeEndsEveryRequest := by
  unfold Obligations.UnsupportedModeEndsEveryRequest
  intro i purpose priv va s hi hf hr hisa h0 h8
  rw [exec_requestOp_idle hi hf (by simp [hisa]) hr, hisa, refreshConfig_rv64_unsupported h0 h8]
  rfl

/-- Settles O16: the two refusals of the accept step, in their order. -/
theorem requestsOutsideContractAreRefused : Obligations.RequestsOutsideContractAreRefused := by
  unfold Obligations.RequestsOutsideContractAreRefused
  intro i purpose priv va s hi hf
  rw [eq_requestInstr_of_mem_requestOps hi, exec_requestInstr]
  exact ⟨acceptRequest_highVaddr hf, acceptRequest_rsvd hf⟩

/-- Settles O17, by `acceptRequest_busy`. -/
theorem busyWalkerAcceptsNoRequest : Obligations.BusyWalkerAcceptsNoRequest := by
  unfold Obligations.BusyWalkerAcceptsNoRequest
  intro i purpose priv va s hi hf
  rw [eq_requestInstr_of_mem_requestOps hi, exec_requestInstr, acceptRequest_busy hf]

/-- Settles O38: `exec_decodeRoot` on the latched request, and `refreshAndDispatch_eq_refresh`. -/
theorem acceptStepRunsTheRootRegisterRow : Obligations.AcceptStepRunsTheRootRegisterRow := by
  unfold Obligations.AcceptStepRunsTheRootRegisterRow
  intro s ha hc
  refine ⟨_, exec_decodeRoot s.inp.cfgIsa s.inp.cfgSatp s.latched, ?_⟩
  have ⟨_, _, hf, _⟩ := ha
  rw [step_accepting_inContract ha hc, acceptedWalker, refreshAndDispatch_eq_refresh (w := latchedWalker s) _ hf]
  by_cases hend : ((latchedWalker s).refresh (refreshConfig s.inp.cfgIsa s.inp.cfgSatp)).fsm = .resp
  · rw [if_pos hend]
    exact congrArg (fun u => Host.Outcome.next (tick u)) (if_pos hend).symm
  · rw [if_neg hend]
    exact congrArg (fun u => Host.Outcome.next (tick u)) (if_neg hend).symm

/-- Settles O39: a placed command word is the request on the ports; a placed root register stands beside a request inside the
contract, and O38 gives its accept step. -/
theorem placedWordIsTheOneRun : Obligations.PlacedWordIsTheOneRun := by
  unfold Obligations.PlacedWordIsTheOneRun
  intro s w
  refine ⟨fun hw => ?_, fun hw => ?_, fun hw => ?_⟩
  · obtain ⟨place, row⟩ := withFetchWord_of_tableWord s (show tableWord 8 w = .ok (.req (BitVec.ofNat 4 w) 0) from if_pos hw)
    refine ⟨_, row, ?_⟩
    rw [place, step_accepting ⟨rfl, rfl, rfl, rfl⟩, ← exec_requestInstr]
    rfl
  · obtain ⟨place, row⟩ := withFetchWord_of_tableWord s (show tableWord 32 w = .ok (.root32 (BitVec.ofNat 32 w)) from if_pos hw)
    have ha : (placeWord s (.root32 (BitVec.ofNat 32 w))).accepting := ⟨rfl, rfl, rfl, rfl⟩
    have hc : (placeWord s (.root32 (BitVec.ofNat 32 w))).requestInContract :=
      ⟨fun _ => BitVec.eq_of_getLsbD_eq fun k hk => by simp [placeWord, State.withInputs], placedPriv_inContract s⟩
    have hthrough := acceptStepRunsTheRootRegisterRow _ ha hc
    have sameRow : decode (.root32 (BitVec.ofNat 32 w)) = decodeRoot .rv32 ((BitVec.ofNat 32 w).setWidth 64) :=
      (decodeRoot_setWidth (BitVec.ofNat 32 w)).symm
    rw [place]
    refine ⟨_, row, ha, hc, ?_⟩
    rw [sameRow]
    exact hthrough
  · obtain ⟨place, row⟩ := withFetchWord_of_tableWord s (show tableWord 64 w = .ok (.root64 (BitVec.ofNat 64 w)) from if_pos hw)
    have ha : (placeWord s (.root64 (BitVec.ofNat 64 w))).accepting := ⟨rfl, rfl, rfl, rfl⟩
    have hc : (placeWord s (.root64 (BitVec.ofNat 64 w))).requestInContract := ⟨nofun, placedPriv_inContract s⟩
    rw [place]
    exact ⟨_, row, ha, hc, acceptStepRunsTheRootRegisterRow _ ha hc⟩

end Sys2Proof.Machine

/-! The physical address: the frame number's segments at and above the leaf level, the virtual address below it
(40_decompose.md R103, 44_leaf.md R190 to R192). -/

namespace Sys2Proof.Machine

/-! ## Numbers of fields -/

/-- Two fields put together, as a number. -/
theorem toNat_append_eq {m n : Nat} (x : BitVec m) (y : BitVec n) : (x ++ y).toNat = x.toNat * 2 ^ n + y.toNat := by
  rw [BitVec.toNat_append, ← Nat.shiftLeft_add_eq_or_of_lt y.isLt, Nat.shiftLeft_eq]

/-- A field of a word, as a number. -/
theorem toNat_field {w : Nat} (x : BitVec w) (a n : Nat) : (x.extractLsb' a n).toNat = x.toNat / 2 ^ a % 2 ^ n := by
  rw [BitVec.extractLsb'_toNat, Nat.shiftRight_eq_div_pow]

/-- The frame number of a PTE, as a number (R107). -/
theorem ptePpn_toNat (isa : Isa) (pte : Word64) : (ptePpn isa pte).toNat = pte.toNat / 2 ^ 10 % 2 ^ ppnBits isa := by
  cases isa with
  | rv32 => rw [ptePpn_rv32, BitVec.toNat_setWidth_of_le (by decide), toNat_field]; rfl
  | rv64 => rw [ptePpn_rv64, toNat_field]; rfl

/-- The size of the page a leaf of a level maps, as a power of two (R192). -/
def pageBits (isa : Isa) (level : Nat) : Nat := 12 + vpnBits isa * level

/-- The segments of an Sv32 physical address, as a number (R190). -/
theorem physAddrSv32_toNat (pte : Word64) (level : Nat) (va : Word64) :
    (physAddrSv32 pte level va).toNat =
      ((ppn1Sv32 pte).toNat * 2 ^ 10 + (if level ≥ 1 then vpn32 va 0 else ppn0Sv32 pte).toNat) * 2 ^ 12 + (offset va).toNat := by
  rw [← toNat_append_eq]
  exact toNat_append_eq _ _

/-- The segments of an Sv39 physical address, as a number (R190). -/
theorem physAddrSv39_toNat (pte : Word64) (level : Nat) (va : Word64) :
    (physAddrSv39 pte level va).toNat =
      (((ppn2Sv39 pte).toNat * 2 ^ 9 + (if level ≥ 2 then vpn39 va 1 else ppn1Sv39 pte).toNat) * 2 ^ 9 +
        (if level ≥ 1 then vpn39 va 0 else ppn0Sv39 pte).toNat) * 2 ^ 12 + (offset va).toNat := by
  rw [← toNat_append_eq, ← toNat_append_eq]
  exact toNat_append_eq _ _

/-- R190: the physical address is the frame number without the segments below the leaf level, and the virtual address's place in
the page. -/
theorem physAddr_toNat {isa : Isa} {level : Nat} (pte va : Word64) (hl : level < levels isa) :
    (physAddr isa pte level va).toNat =
      (ptePpn isa pte).toNat / 2 ^ (vpnBits isa * level) * 2 ^ pageBits isa level + va.toNat % 2 ^ pageBits isa level := by
  rw [ptePpn_toNat]
  cases isa with
  | rv32 =>
    simp only [levels] at hl
    rw [physAddr, BitVec.toNat_setWidth_of_le (by decide)]
    interval_cases level <;>
      simp [physAddrSv32_toNat, vpn32, offset, ppn1Sv32, ppn0Sv32, vpnBits, pageBits, ppnBits] <;> omega
  | rv64 =>
    simp only [levels] at hl
    rw [physAddr, BitVec.toNat_setWidth_of_le (by decide)]
    interval_cases level <;>
      simp [physAddrSv39_toNat, vpn39, offset, ppn2Sv39, ppn1Sv39, ppn0Sv39, vpnBits, pageBits, ppnBits] <;>
      omega

/-- R190: the last 12 bits of a physical address are the page offset, at every level. -/
theorem physAddr_offset (isa : Isa) (pte : Word64) (level : Nat) (va : Word64) :
    (physAddr isa pte level va).extractLsb' 0 12 = offset va := by
  have low : ∀ {n : Nat} (x : BitVec n), ((x ++ offset va).setWidth 64).extractLsb' 0 12 = offset va := fun x =>
    BitVec.eq_of_getLsbD_eq fun k hk => by simp [BitVec.getLsbD_append, hk, show k < 64 by omega]
  cases isa
  · exact low _
  · exact low _

/-- R50: a physical address has 34 bits under RV32 and 56 under RV64. -/
theorem physAddr_lt (isa : Isa) (pte : Word64) (level : Nat) (va : Word64) :
    (physAddr isa pte level va).toNat < 2 ^ paBits isa := by
  cases isa <;> rw [physAddr, BitVec.toNat_setWidth_of_le (by decide)] <;> exact BitVec.isLt _

/-- The bits of a physical address, by the ISA width (R7). -/
theorem paBits_eq_ite (isa : Isa) : paBits isa = if isa = .rv32 then 34 else 56 := by
  cases isa <;> rfl

/-- R189: a superpage is aligned when the frame number ends in zeros below the leaf level. -/
theorem ptePpn_mod_of_aligned {isa : Isa} {level : Nat} {pte : Word64} (hl : level < levels isa)
    (ha : misalignedSuperpage isa pte level = false) : (ptePpn isa pte).toNat % 2 ^ (vpnBits isa * level) = 0 := by
  have hn := mt (misalignedSuperpage_iff pte hl).mpr (by simp [ha])
  simp only [BitVec.toNat_eq, toNat_field, ne_eq, not_or, not_and, not_not] at hn
  rw [ptePpn_toNat]
  cases isa with
  | rv32 =>
    simp only [levels] at hl
    interval_cases level <;> simp [vpnBits, ppnBits] at hn ⊢ <;> omega
  | rv64 =>
    simp only [levels] at hl
    interval_cases level <;> simp [vpnBits, ppnBits] at hn ⊢ <;> omega

/-- R190, R189: the physical address of an aligned page is the frame number shifted by 12 with the virtual address's place in the
page below it. -/
theorem physAddr_of_aligned {isa : Isa} {level : Nat} (pte va : Word64) (hl : level < levels isa)
    (ha : misalignedSuperpage isa pte level = false) :
    physAddr isa pte level va =
      ((ptePpn isa pte).setWidth 64 <<< 12) ||| (va &&& (BitVec.ofNat 64 (2 ^ pageBits isa level - 1))) := by
  have hmod := ptePpn_mod_of_aligned hl ha
  have hplace : va.toNat % 2 ^ pageBits isa level < 2 ^ pageBits isa level := Nat.mod_lt _ (by positivity)
  have hframe := (ptePpn isa pte).isLt
  have hbits : pageBits isa level ≤ 64 := by
    cases isa <;> simp only [levels, pageBits, vpnBits] at hl ⊢ <;> omega
  have hmask : (BitVec.ofNat 64 (2 ^ pageBits isa level - 1)).toNat = 2 ^ pageBits isa level - 1 := by
    rw [BitVec.toNat_ofNat, Nat.mod_eq_of_lt]
    exact lt_of_lt_of_le (Nat.sub_lt (by positivity) (by decide)) (Nat.pow_le_pow_right (by decide) hbits)
  have hupper : ((ptePpn isa pte).setWidth 64 <<< 12).toNat =
      (ptePpn isa pte).toNat / 2 ^ (vpnBits isa * level) * 2 ^ pageBits isa level := by
    rw [BitVec.toNat_shiftLeft, BitVec.toNat_setWidth_of_le (by decide), Nat.shiftLeft_eq, Nat.mod_eq_of_lt (by omega),
      pageBits, Nat.add_comm, Nat.pow_add, ← Nat.mul_assoc, Nat.div_mul_cancel (Nat.dvd_of_mod_eq_zero hmod)]
  apply BitVec.eq_of_toNat_eq
  rw [physAddr_toNat pte va hl, BitVec.toNat_or, BitVec.toNat_and, hmask, Nat.and_two_pow_sub_one_eq_mod, hupper,
    ← Nat.shiftLeft_eq, Nat.shiftLeft_add_eq_or_of_lt hplace]

/-! ## The obligations -/

/-- Settles O5: neighbouring fields put together are one field, and `physAddr_offset`. -/
theorem vaDecompositionIsExact : Obligations.VaDecompositionIsExact := by
  unfold Obligations.VaDecompositionIsExact
  refine ⟨fun va => ?_, fun va => ?_, physAddr_offset⟩
  · have vpns : vpn32 va 1 ++ vpn32 va 0 = va.extractLsb' 12 20 :=
      BitVec.extractLsb'_append_extractLsb'_eq_extractLsb' (by decide)
    rw [vpns]
    exact BitVec.extractLsb'_append_extractLsb'_eq_extractLsb' (by decide)
  · have upper : vpn39 va 2 ++ vpn39 va 1 = va.extractLsb' 21 18 :=
      BitVec.extractLsb'_append_extractLsb'_eq_extractLsb' (by decide)
    have vpns : va.extractLsb' 21 18 ++ vpn39 va 0 = va.extractLsb' 12 27 :=
      BitVec.extractLsb'_append_extractLsb'_eq_extractLsb' (by decide)
    rw [upper, vpns]
    exact BitVec.extractLsb'_append_extractLsb'_eq_extractLsb' (by decide)

/-- Settles O29: the segments level by level; with the low segments zero, `physAddr_of_aligned`. -/
theorem physicalAddressIsReconstructed : Obligations.PhysicalAddressIsReconstructed := by
  unfold Obligations.PhysicalAddressIsReconstructed
  refine ⟨fun pte va level hl => ?_, fun pte va level hl => ?_, fun isa pte va level hl ha => ?_⟩
  · interval_cases level <;> rfl
  · interval_cases level <;> rfl
  · exact physAddr_of_aligned pte va hl ha

/-- Settles O30: the place and the page of `physAddr_toNat`, for each level and its page size. -/
theorem leafMapsOnePage : Obligations.LeafMapsOnePage := by
  unfold Obligations.LeafMapsOnePage
  intro isa pte level pageSize hmem va va'
  obtain ⟨hl, hsize⟩ : level < levels isa ∧ pageSize = 2 ^ pageBits isa level := by
    simp only [List.mem_cons, Prod.mk.injEq, List.not_mem_nil, or_false] at hmem
    obtain ⟨rfl, rfl, rfl⟩ | ⟨rfl, rfl, rfl⟩ | ⟨rfl, rfl, rfl⟩ | ⟨rfl, rfl, rfl⟩ | ⟨rfl, rfl, rfl⟩ := hmem <;> decide
  have hpos : 0 < 2 ^ pageBits isa level := by positivity
  have hplace : ∀ va : Word64, va.toNat % 2 ^ pageBits isa level < 2 ^ pageBits isa level := fun va => Nat.mod_lt _ hpos
  have hlt : (physAddr isa pte level va).toNat < 2 ^ (if isa = .rv32 then 34 else 56) := by
    rw [← paBits_eq_ite]
    exact physAddr_lt isa pte level va
  refine ⟨?_, ?_, hlt⟩ <;> rw [hsize, physAddr_toNat pte va hl]
  · rw [Nat.mul_add_mod_self_right, Nat.mod_mod]
  · rw [physAddr_toNat pte va' hl, Nat.mul_comm, Nat.mul_add_div hpos, Nat.mul_add_div hpos,
      Nat.div_eq_of_lt (hplace va), Nat.div_eq_of_lt (hplace va')]

end Sys2Proof.Machine

/-! The bits the block ignores (R73, R91, U11): every field it reads of a word is the same in words that agree on
the bits read. -/

namespace Sys2Proof.Machine

/-! ## Words that agree on some bits -/

section
variable {x y : Word64}

/-- Words that agree under a mask agree on each bit of it. -/
theorem bit_eq_of_masked {mask : Word64} (h : x &&& mask = y &&& mask) (k : Nat) (hk : mask.getLsbD k = true) :
    x.getLsbD k = y.getLsbD k := by
  simpa only [BitVec.getLsbD_and, hk, Bool.and_true] using congrArg (BitVec.getLsbD · k) h

/-- Words that agree under a mask agree on each field that lies in it. -/
theorem field_eq_of_masked {mask : Word64} (h : x &&& mask = y &&& mask) (a n : Nat)
    (hm : mask.extractLsb' a n = BitVec.allOnes n) : x.extractLsb' a n = y.extractLsb' a n := by
  have hf := congrArg (BitVec.extractLsb' a n) h
  rwa [BitVec.extractLsb'_and, BitVec.extractLsb'_and, hm, BitVec.and_allOnes, BitVec.and_allOnes] at hf

/-- Words that agree on a field agree on each part of it. -/
theorem field_eq_of_field {a n : Nat} (h : x.extractLsb' a n = y.extractLsb' a n) (b k : Nat) (hb : a ≤ b) (hk : b + k ≤ a + n) :
    x.extractLsb' b k = y.extractLsb' b k := by
  refine BitVec.eq_of_getLsbD_eq fun i hi => ?_
  have hbit := congrArg (BitVec.getLsbD · (b - a + i)) h
  simpa [hi, show b - a + i < n by omega, show a + (b - a + i) = b + i by omega] using hbit

end

/-! ## What each field of a PTE decides -/

section
variable {pte pte' : Word64}

/-- The class of a PTE is decided by bits 3:0 (R76). -/
theorem row_decodePte_congr (h : pte.extractLsb' 0 4 = pte'.extractLsb' 0 4) :
    (decode (.pte pte)).row = (decode (.pte pte')).row := by
  have bit : ∀ k, k < 4 → pte.getLsbD k = pte'.getLsbD k := fun k hk => by
    simpa [hk] using congrArg (BitVec.getLsbD · k) h
  simp (disch := decide) only [decode, decodePte, bit]
  split_ifs <;> rfl

variable (h : pte.extractLsb' 10 44 = pte'.extractLsb' 10 44)
include h

/-- The frame number of a PTE is decided by bits 53:10 (R107). -/
theorem ptePpn_congr (isa : Isa) : ptePpn isa pte = ptePpn isa pte' := by
  cases isa with
  | rv32 => rw [ptePpn_rv32, ptePpn_rv32, field_eq_of_field h 10 22 (by decide) (by decide)]
  | rv64 => rw [ptePpn_rv64, ptePpn_rv64, h]

/-- The PPN segments of a PTE are decided by bits 53:10 (R105, R106). -/
theorem ppnSegments_congr :
    ppn0Sv32 pte = ppn0Sv32 pte' ∧ ppn1Sv32 pte = ppn1Sv32 pte' ∧ ppn0Sv39 pte = ppn0Sv39 pte' ∧
    ppn1Sv39 pte = ppn1Sv39 pte' ∧ ppn2Sv39 pte = ppn2Sv39 pte' :=
  ⟨field_eq_of_field h 10 10 (by decide) (by decide), field_eq_of_field h 20 12 (by decide) (by decide),
    field_eq_of_field h 10 9 (by decide) (by decide), field_eq_of_field h 19 9 (by decide) (by decide),
    field_eq_of_field h 28 26 (by decide) (by decide)⟩

/-- What a physical address takes of a PTE is decided by bits 53:10 (R190). -/
theorem physAddr_congr (isa : Isa) (level : Nat) (va : Word64) : physAddr isa pte level va = physAddr isa pte' level va := by
  obtain ⟨h0, h1, k0, k1, k2⟩ := ppnSegments_congr h
  cases isa
  · simp only [physAddr, physAddrSv32, h0, h1]
  · simp only [physAddr, physAddrSv39, k0, k1, k2]

/-- The superpage check is decided by bits 53:10 (R189). -/
theorem misalignedSuperpage_congr (isa : Isa) (level : Nat) :
    misalignedSuperpage isa pte level = misalignedSuperpage isa pte' level := by
  obtain ⟨h0, h1, k0, k1, k2⟩ := ppnSegments_congr h
  have hppn : ppn isa pte = ppn isa pte' := by
    funext i
    unfold ppn
    split <;> simp only [*]
  simp only [misalignedSuperpage, hppn]

/-- The leaf checks are decided by bits 53:10, 7:6 and 4:1 (R182). -/
theorem leafCheck_congr (hflags : ∀ k ∈ [1, 2, 3, 4, 6, 7], pte.getLsbD k = pte'.getLsbD k) (purpose : Purpose) (priv : Priv)
    (sum mxr : Bool) (isa : Isa) (level : Nat) :
    leafCheck purpose priv sum mxr isa pte level = leafCheck purpose priv sum mxr isa pte' level := by
  have hR : flagR pte = flagR pte' := hflags 1 (by decide)
  have hW : flagW pte = flagW pte' := hflags 2 (by decide)
  have hX : flagX pte = flagX pte' := hflags 3 (by decide)
  have hU : flagU pte = flagU pte' := hflags 4 (by decide)
  have hA : flagA pte = flagA pte' := hflags 6 (by decide)
  have hD : flagD pte = flagD pte' := hflags 7 (by decide)
  have hS : sumDenies priv sum pte = sumDenies priv sum pte' := by rw [sumDenies, hU, sumDenies]
  have check : purposeCheck purpose priv sum mxr pte = purposeCheck purpose priv sum mxr pte' := by
    cases purpose <;> simp only [purposeCheck, hS, hR, hW, hX, hD]
  rw [leafCheck, hA, hU, check, misalignedSuperpage_congr h, leafCheck]

end

/-! ## The received word under RV32 -/

/-- The frame number of a received word, cut to the ISA width (R107, R109). -/
theorem ptePpn_pteWord (isa : Isa) (data : Word64) :
    ptePpn isa (pteWord isa data) = if isa = .rv32 then (data.extractLsb' 10 22).setWidth 44 else data.extractLsb' 10 44 := by
  cases isa with
  | rv32 =>
    have cut : (pteWord .rv32 data).extractLsb' 10 22 = data.extractLsb' 10 22 :=
      BitVec.eq_of_getLsbD_eq fun k hk => by
        simp only [BitVec.getLsbD_extractLsb', hk, decide_true, Bool.true_and]
        exact pteWord_getLsbD .rv32 data (10 + k) (by omega)
    rw [ptePpn_rv32, cut, if_pos rfl]
  | rv64 => exact ptePpn_rv64 data

/-- The rule of a waiting walker that is answered (R168, R169). -/
theorem action_answered {s : State} (hr : s.inp.rst = false) (hf : s.w.fsm = .wait) (hm : s.inp.memRespValid = true) :
    action s = (readerAnswer s).elim .readError fun d => .run (decode (.pte d)) := by
  cases hd : readerAnswer s <;> simp [action, hr, hf, hm, hd]

section
variable {data data' : Word64} (h : data.extractLsb' 0 32 = data'.extractLsb' 0 32)
include h

/-- Under RV32 a read keeps bits 31:0 (R109). -/
theorem pteWord_rv32_congr : pteWord .rv32 data = pteWord .rv32 data' := congrArg (BitVec.setWidth 64) h

/-- Under RV32 the receive step depends on bits 31:0 of the word (R109). -/
theorem exec_pte_rv32_congr {s : State} (hi : s.w.cIsa = .rv32) : exec (decode (.pte data)) s = exec (decode (.pte data')) s := by
  have hw := pteWord_rv32_congr h
  have hact : receiveAct data = receiveAct data' := by
    rw [← receiveAct_pteWord .rv32 data, hw, receiveAct_pteWord]
  simp only [exec_decode_pte, receivePte, State.onWalker, hi, hw, hact]

/-- Under RV32 a step depends on bits 31:0 of the word on the memory port (R109). -/
theorem step_memRespData_congr {s : State} (hi : s.w.cIsa = .rv32) :
    step { s with inp := { s.inp with memRespData := data } } = step { s with inp := { s.inp with memRespData := data' } } := by
  have same : action { s with inp := { s.inp with memRespData := data } } =
      action { s with inp := { s.inp with memRespData := data' } } →
      step { s with inp := { s.inp with memRespData := data } } = step { s with inp := { s.inp with memRespData := data' } } :=
    fun hact => step_inp_congr rfl hact fun _ => ⟨rfl, rfl, rfl, rfl⟩
  by_cases hw : s.inp.rst = false ∧ s.w.fsm = .wait ∧ s.inp.memRespValid = true
  case neg =>
    refine same ?_
    unfold action
    cases hr : s.inp.rst
    case true => rfl
    cases hf : s.w.fsm
    case wait =>
      cases hm : s.inp.memRespValid
      case false => rfl
      case true => exact absurd ⟨hr, hf, hm⟩ hw
    all_goals rfl
  case pos =>
    obtain ⟨hr, hf, hm⟩ := hw
    have answered : ∀ d, action { s with inp := { s.inp with memRespData := d } } = _ := fun d =>
      action_answered (s := { s with inp := { s.inp with memRespData := d } }) hr hf hm
    by_cases hdraw : s.inp.memRespFromImage = true ∨ s.inp.memRespErr = true
    · refine same ?_
      rw [answered, answered]
      obtain hn | hn := hdraw <;> simp only [readerAnswer, hn, if_true]
    · simp only [not_or, Bool.not_eq_true] at hdraw
      have run : ∀ d, step { s with inp := { s.inp with memRespData := d } } = thenTick (exec (decode (.pte d)) s) := fun d => by
        have hd : readerAnswer { s with inp := { s.inp with memRespData := d } } = some d := by simp [readerAnswer, hdraw]
        rw [step_receiving (s := { s with inp := { s.inp with memRespData := d } }) hr hf hm hd, exec_decode_pte, exec_decode_pte]
        exact thenTick_receivePte_inp (inp := { s.inp with memRespData := d }) (inp' := s.inp) rfl d (receiveAct d)
      rw [run, run, exec_pte_rv32_congr h hi]

end

/-! ## The obligations -/

/-- Settles O31, clause by clause: what is read of a word lies in the bits that the two words share. -/
theorem ignoredBitsHaveNoEffect : Obligations.IgnoredBitsHaveNoEffect := by
  unfold Obligations.IgnoredBitsHaveNoEffect
  refine ⟨fun pte pte' h => ?_, fun pte pte' h => ?_, fun data data' h => ?_, fun va va' h => ?_, fun satp satp' h => ?_,
    fun satp satp' h => ?_⟩
  · have hppn := field_eq_of_masked h 10 44 (by decide)
    have hflags : ∀ k ∈ [1, 2, 3, 4, 6, 7], pte.getLsbD k = pte'.getLsbD k := fun k hk =>
      bit_eq_of_masked h k (by revert k; decide)
    exact ⟨ptePpn_congr hppn, row_decodePte_congr (field_eq_of_masked h 0 4 (by decide)), leafCheck_congr hppn hflags,
      physAddr_congr hppn⟩
  · exact ⟨ptePpn_congr (field_eq_of_masked h 10 44 (by decide)), row_decodePte_congr (field_eq_of_masked h 0 4 (by decide))⟩
  · exact ⟨pteWord_rv32_congr h, fun s hi => ⟨exec_pte_rv32_congr h hi, step_memRespData_congr h hi⟩⟩
  · have hvpn : ∀ level, level < 3 → vpn39 va level = vpn39 va' level := fun level hl =>
      field_eq_of_field h _ 9 (by omega) (by omega)
    have hoff : offset va = offset va' := field_eq_of_field h 0 12 (by decide) (by decide)
    refine ⟨fun frame level hl => ?_, fun pte level => ?_⟩
    · simp only [pteAddr, vpn, hvpn level hl]
    · simp only [physAddr, physAddrSv39, hvpn 0 (by decide), hvpn 1 (by decide), hoff]
  · have hbit := bit_eq_of_masked h 31 (by decide)
    have hroot := field_eq_of_masked h 0 22 (by decide)
    simp only [refreshConfig, hbit, hroot]
  · have hmode := field_eq_of_masked h 60 4 (by decide)
    have hroot := field_eq_of_masked h 0 44 (by decide)
    simp only [refreshConfig, hmode, hroot]

/-- Settles O23: above level 0 the pointer step is the descent to the frame of `ptePpn_pteWord`. -/
theorem pointerPteGoesDown : Obligations.PointerPteGoesDown := by
  unfold Obligations.PointerPteGoesDown
  intro s data hf hl h0
  have hp : (s.w.recordPte (pteWord s.w.cIsa data)).pointerStep (pteWord s.w.cIsa data) =
      (s.w.recordPte (pteWord s.w.cIsa data)).descend (pteWord s.w.cIsa data) := pointerStep_above_zero _ h0
  rw [exec_ptePointer_wait data hf hl, ← ptePpn_pteWord]
  simp only [State.onWalker, hp, Walker.descend, recordPte_cIsa, recordPte_wLevel]

end Sys2Proof.Machine

/-! The image behind the Memory Reader: what it answers a read, and what the stores of other agents leave in it (20_memory.md). -/

namespace Sys2Proof.Machine

/-! ## Little-endian words -/

/-- One more byte at the low end. -/
theorem readLittleEndian_succ (m : Memory) (a n : Nat) :
    readLittleEndian m a (n + 1) =
      (readByte m a).bind fun b => (readLittleEndian m (a + 1) n).map fun r => b.toNat + 256 * r := by
  cases hb : readByte m a <;> cases hr : readLittleEndian m (a + 1) n <;> simp [readLittleEndian, hb, hr]

/-- A number is read exactly when the image lists its base-256 digits, the lowest address first, and it has no more of
them (R54). -/
theorem readLittleEndian_eq_some_iff (m : Memory) (a n r : Nat) :
    readLittleEndian m a n = some r ↔ r < 256 ^ n ∧ ∀ k, k < n → readByte m (a + k) = some (BitVec.ofNat 8 (r / 256 ^ k)) := by
  induction n generalizing a r with
  | zero => simp [readLittleEndian, eq_comm]
  | succ n ih =>
    have digit : ∀ k, r / 256 ^ (k + 1) = r / 256 / 256 ^ k := fun k => by rw [Nat.pow_succ', Nat.div_div_eq_div_mul]
    have bound : r < 256 ^ (n + 1) ↔ r / 256 < 256 ^ n := by rw [Nat.pow_succ, Nat.div_lt_iff_lt_mul (by decide)]
    rw [readLittleEndian_succ, Nat.forall_lt_succ_left, bound]
    simp only [Option.bind_eq_some_iff, Option.map_eq_some_iff, ih, digit, Nat.pow_zero, Nat.div_one, Nat.add_zero, Nat.add_assoc,
      Nat.add_comm 1]
    constructor
    · rintro ⟨b, hb, r', ⟨hr', hd⟩, hr⟩
      have hlow : b = BitVec.ofNat 8 r := BitVec.eq_of_toNat_eq (by have := b.isLt; simp; omega)
      have hhigh : r / 256 = r' := by have := b.isLt; omega
      rw [hhigh, ← hlow]
      exact ⟨hr', hb, hd⟩
    · rintro ⟨hr, hb, hd⟩
      exact ⟨_, hb, r / 256, ⟨hr, hd⟩, by simp; omega⟩

/-- A read fails exactly when one of its bytes is not listed (R59). -/
theorem readLittleEndian_eq_none_iff (m : Memory) (a n : Nat) :
    readLittleEndian m a n = none ↔ ∃ k, k < n ∧ readByte m (a + k) = none := by
  induction n generalizing a with
  | zero => simp [readLittleEndian]
  | succ n ih =>
    have here : readLittleEndian m a (n + 1) = none ↔ readByte m a = none ∨ readLittleEndian m (a + 1) n = none := by
      rw [readLittleEndian_succ]
      cases readByte m a <;> simp
    rw [here, ih, Nat.exists_lt_succ_left]
    simp only [Nat.add_zero, Nat.add_assoc, Nat.add_comm 1]

/-- A PTE has at most 8 bytes (R7). -/
theorem pow_ptesize_le (isa : Isa) : 256 ^ ptesize isa ≤ 2 ^ 64 := by
  cases isa <;> decide

/-- The image answers a word exactly when it reads the number of the word (R52, R54). -/
theorem readImage_eq_some_iff (m : Memory) (isa : Isa) (a : PteAddress) (w : Word64) :
    readImage m isa a = some w ↔ readLittleEndian m a.toNat (ptesize isa) = some w.toNat := by
  rw [readImage, Option.map_eq_some_iff]
  constructor
  · rintro ⟨r, hr, rfl⟩
    have hlt := ((readLittleEndian_eq_some_iff m a.toNat (ptesize isa) r).mp hr).1
    rwa [BitVec.toNat_ofNat, Nat.mod_eq_of_lt (lt_of_lt_of_le hlt (pow_ptesize_le isa))]
  · exact fun h => ⟨w.toNat, h, by simp⟩

/-- A byte of a word is a base-256 digit of its number. -/
theorem byte_eq_digit (w : Word64) (k : Nat) : w.extractLsb' (8 * k) 8 = BitVec.ofNat 8 (w.toNat / 256 ^ k) := by
  rw [BitVec.extractLsb', Nat.shiftRight_eq_div_pow, Nat.pow_mul]

/-- A number fits the PTE size exactly when its word has a zero upper half under RV32 (R109). -/
theorem toNat_lt_pow_ptesize_iff (isa : Isa) (w : Word64) :
    w.toNat < 256 ^ ptesize isa ↔ (isa = .rv32 → w.extractLsb' 32 32 = 0) := by
  cases isa with
  | rv64 => exact ⟨fun _ => nofun, fun _ => w.isLt⟩
  | rv32 =>
    refine ⟨fun h _ => BitVec.eq_of_toNat_eq ?_, fun h => toNat_lt_of_upper_half (h rfl)⟩
    rw [toNat_field, Nat.div_eq_of_lt (show w.toNat < 2 ^ 32 from h)]
    rfl

/-! ## Stores of other agents -/

/-- After a list of stores each address reads as the last of the stores to it, and as before where none is to it (R54, R62). -/
theorem readByte_storeBytes (m : Memory) (stores : List (Word64 × Byte)) (a : Nat) (h : Memory.wf m) :
    readByte (storeBytes m stores) a = ((stores.reverse.find? (fun c => c.1.toNat == a)).map (·.2)).or (readByte m a) := by
  induction stores using List.reverseRecOn with
  | nil => rfl
  | append_singleton stores c ih =>
    rw [storeBytes_append, storeBytes_singleton, readByte_storeByte _ _ _ _ (storeBytes_wf m stores h).1, List.reverse_append,
      List.reverse_singleton, List.singleton_append, List.find?_cons]
    by_cases hc : c.1.toNat = a
    · simp [hc]
    · simpa [hc, beq_false_of_ne hc] using ih

/-! ## The obligations -/

/-- Settles O52: the number that the bytes make, and the bytes of that number. -/
theorem imageAnswersLittleEndianWords : Obligations.ImageAnswersLittleEndianWords := by
  unfold Obligations.ImageAnswersLittleEndianWords
  intro m isa a
  rw [← ptesize_eq_ite]
  refine ⟨fun w => ?_, ?_⟩
  · rw [readImage_eq_some_iff, readLittleEndian_eq_some_iff, toNat_lt_pow_ptesize_iff, and_comm]
    simp only [byte_eq_digit]
  · rw [readImage, Option.map_eq_none_iff, readLittleEndian_eq_none_iff]

/-- Settles O58: `readByte_storeBytes`, on the stores of a step. -/
theorem storesOfOtherAgentsReadBack : Obligations.StoresOfOtherAgentsReadBack := by
  unfold Obligations.StoresOfOtherAgentsReadBack
  refine ⟨fun m stores a h => ?_, fun s t hm h => ?_⟩
  · rw [readByte_storeBytes m stores a h]
    cases stores.reverse.find? (fun c => c.1.toNat == a) <;> rfl
  obtain ⟨hmem, -⟩ := step_walker h
  have read : ∀ a, readByte t.mem a = _ := fun a => hmem ▸ readByte_storeBytes s.mem s.inp.envStores a hm
  refine ⟨fun c hc => ?_, fun a hne => ?_⟩
  · obtain ⟨d, hd⟩ : ∃ d, s.inp.envStores.reverse.find? (fun d => d.1.toNat == c.1.toNat) = some d :=
      Option.isSome_iff_exists.mp (List.find?_isSome.mpr ⟨c, List.mem_reverse.mpr hc, beq_self_eq_true _⟩)
    have hda : d.1 = c.1 := BitVec.eq_of_toNat_eq (by simpa using List.find?_some hd)
    refine ⟨d.2, ?_, by rw [read, hd]; rfl⟩
    rw [← hda]
    exact List.mem_reverse.mp (List.mem_of_find?_eq_some hd)
  · have hnone : s.inp.envStores.reverse.find? (fun d => d.1.toNat == a) = none :=
      List.find?_eq_none.mpr fun c hc => by simpa using hne c (List.mem_reverse.mp hc)
    rw [read, hnone]
    rfl

end Sys2Proof.Machine

/-! The contract of a request as a function, and its stated properties (42_translate.md, 43_walk.md R160, R161). -/

namespace Sys2Proof.Machine

/-! ## One read of a walk -/

/-- A leaf is a valid, unreserved PTE with `R` or `X` (R160). -/
theorem classify_leaf {isa : Isa} {answer : Option Word64} {pte : Word64} (h : classify isa answer = .leaf pte) :
    isLeaf pte = true ∧ isInvalid pte = false ∧ isReservedWnr pte = false := by
  cases answer with
  | none => cases h
  | some d =>
    simp only [classify] at h
    split at h
    case isTrue => cases h
    case isFalse hV =>
      split at h
      case isTrue => cases h
      case isFalse hW =>
        split at h
        case isFalse => cases h
        case isTrue hl =>
          obtain rfl := ReadOutcome.leaf.inj h
          exact ⟨hl, Bool.eq_false_iff.mpr hV, Bool.eq_false_iff.mpr hW⟩

/-- The class of an answered word, by its bits (R108, R160). -/
theorem classify_eq_ite (isa : Isa) (d : Word64) :
    classify isa (some d) =
      if d.getLsbD 0 = false then .fault .pteInvalid
      else if d.getLsbD 2 = true ∧ d.getLsbD 1 = false then .fault .pteReservedWnr
      else if d.getLsbD 1 = true ∨ d.getLsbD 3 = true then .leaf (pteWord isa d)
      else .pointer (ptePpn isa (pteWord isa d)) := by
  simp (disch := decide) only [classify, isInvalid, isReservedWnr, isLeaf, flagV, flagR, flagW, flagX, pteWord_getLsbD,
    Bool.not_eq_true', Bool.and_eq_true, Bool.or_eq_true]

/-- A word with `V` = 0 is an invalid PTE (R180). -/
theorem classify_invalid (isa : Isa) {data : Word64} (h : data.getLsbD 0 = false) :
    classify isa (some data) = .fault .pteInvalid := by
  rw [classify_eq_ite, if_pos h]

/-- A word with bits 3:0 equal to 1 is a pointer (R108). -/
theorem classify_pointer (isa : Isa) {data : Word64} (h : data.extractLsb' 0 4 = 0x1#4) :
    classify isa (some data) = .pointer (ptePpn isa (pteWord isa data)) := by
  have bit := (extractLsb'_zero_eq_iff data 0x1#4).mp h
  rw [classify_eq_ite, bit 0 (by decide), bit 1 (by decide), bit 2 (by decide), bit 3 (by decide)]
  rfl

section
variable {isa : Isa} {va : Word64} {mem : ReadOracle} {level : Nat} {frame : Frame} {k : Nat}

theorem walkFrom_fault {d : Diag} (h : classify isa (mem k (pteAddr isa frame va level)) = .fault d) :
    walkFrom isa va mem level frame k = .fault d level (k + 1) := by
  cases level <;> simp only [walkFrom, h]

theorem walkFrom_leaf {pte : Word64} (h : classify isa (mem k (pteAddr isa frame va level)) = .leaf pte) :
    walkFrom isa va mem level frame k = .leaf pte level (k + 1) := by
  cases level <;> simp only [walkFrom, h]

theorem walkFrom_pointer_zero {frame' : Frame} (h : classify isa (mem k (pteAddr isa frame va 0)) = .pointer frame') :
    walkFrom isa va mem 0 frame k = .fault .noLeaf 0 (k + 1) := by
  simp only [walkFrom, h]

theorem walkFrom_pointer_succ {frame' : Frame} (h : classify isa (mem k (pteAddr isa frame va (level + 1))) = .pointer frame') :
    walkFrom isa va mem (level + 1) frame k = walkFrom isa va mem level frame' (k + 1) := by
  simp only [walkFrom, h]

end

/-! ## Whole walks -/

/-- A walk ends at a level it reads, one read for each level down to it, with a valid leaf or a fault (R161). -/
theorem walkFrom_end (isa : Isa) (va : Word64) (mem : ReadOracle) (level : Nat) (frame : Frame) (k : Nat) :
    ∃ l reads, l ≤ level ∧ reads + l = k + level + 1 ∧
      ((∃ pte, walkFrom isa va mem level frame k = .leaf pte l reads ∧ isLeaf pte = true ∧ isInvalid pte = false ∧
          isReservedWnr pte = false) ∨
        ∃ d, walkFrom isa va mem level frame k = .fault d l reads) := by
  induction level generalizing frame k with
  | zero =>
    refine ⟨0, k + 1, Nat.le_refl 0, by omega, ?_⟩
    cases hc : classify isa (mem k (pteAddr isa frame va 0)) with
    | fault d => exact .inr ⟨d, walkFrom_fault hc⟩
    | leaf pte => exact .inl ⟨pte, walkFrom_leaf hc, classify_leaf hc⟩
    | pointer frame' => exact .inr ⟨.noLeaf, walkFrom_pointer_zero hc⟩
  | succ level ih =>
    cases hc : classify isa (mem k (pteAddr isa frame va (level + 1))) with
    | fault d => exact ⟨level + 1, k + 1, Nat.le_refl _, by omega, .inr ⟨d, walkFrom_fault hc⟩⟩
    | leaf pte => exact ⟨level + 1, k + 1, Nat.le_refl _, by omega, .inl ⟨pte, walkFrom_leaf hc, classify_leaf hc⟩⟩
    | pointer frame' =>
      obtain ⟨l, reads, hl, hr, hend⟩ := ih frame' (k + 1)
      rw [walkFrom_pointer_succ hc]
      exact ⟨l, reads, by omega, by omega, hend⟩

/-- A reader of pointers only is read down to level 0 (R148, R171). -/
theorem walkFrom_pointers {isa : Isa} {mem : ReadOracle} (h : ∀ k a, ∃ data, mem k a = some data ∧ data.extractLsb' 0 4 = 0x1#4)
    (va : Word64) (level : Nat) (frame : Frame) (k : Nat) :
    walkFrom isa va mem level frame k = .fault .noLeaf 0 (k + level + 1) := by
  induction level generalizing frame k with
  | zero =>
    obtain ⟨data, hd, hp⟩ := h k (pteAddr isa frame va 0)
    exact walkFrom_pointer_zero (hd ▸ classify_pointer isa hp)
  | succ level ih =>
    obtain ⟨data, hd, hp⟩ := h k (pteAddr isa frame va (level + 1))
    rw [walkFrom_pointer_succ (hd ▸ classify_pointer isa hp), ih]
    congr 1
    omega

/-! ## Translate -/

section
variable {purpose : Purpose} {priv : Priv} {va : Word64} {isa : Isa} {satp : Word64} {sum mxr : Bool} {mem : ReadOracle}

theorem translate_configError (h : refreshConfig isa satp = none) :
    translate purpose priv va isa satp sum mxr mem = (.configError, 0) := by
  simp only [translate, h]

variable {mode : Mode} {root : Frame} (h : refreshConfig isa satp = some (mode, root))
include h

/-- At an excluded level and under Bare the translation is identity (R141, R142). -/
theorem translate_identity (hi : excludedFromTranslation priv = true ∨ mode = .bare) :
    translate purpose priv va isa satp sum mxr mem = (.ok va, 0) := by
  obtain hp | rfl := hi
  · simp only [translate, h, hp, if_true]
  · simp only [translate, h, if_true, ite_self]

/-- At a translated level under a translating mode the translation is what the walk comes to (R143). -/
theorem translate_walk (hp : excludedFromTranslation priv = false) (hm : mode ≠ .bare) :
    translate purpose priv va isa satp sum mxr mem = finishWalk purpose priv va isa sum mxr (walk isa va root mem) := by
  simp only [translate, h, hp, hm, Bool.false_eq_true, if_false]

end

section
variable {purpose : Purpose} {priv : Priv} {va : Word64} {isa : Isa} {sum mxr : Bool} {pte : Word64} {level reads : Nat}

theorem finishWalk_leaf_fails {d : Diag} (h : leafCheck purpose priv sum mxr isa pte level = some d) :
    finishWalk purpose priv va isa sum mxr (.leaf pte level reads) = (.pageFault (cause purpose) d level, reads) := by
  simp only [finishWalk, h]

theorem finishWalk_leaf_passes (h : leafCheck purpose priv sum mxr isa pte level = none) :
    finishWalk purpose priv va isa sum mxr (.leaf pte level reads) = (.ok (physAddr isa pte level va), reads) := by
  simp only [finishWalk, h]

/-- The leaf checks make no read. -/
theorem finishWalk_leaf_reads : (finishWalk purpose priv va isa sum mxr (.leaf pte level reads)).2 = reads := by
  cases h : leafCheck purpose priv sum mxr isa pte level with
  | none => rw [finishWalk_leaf_passes h]
  | some d => rw [finishWalk_leaf_fails h]

/-- A store to a clean page fails a check, the dirty check or one before it (R188). -/
theorem leafCheck_store_clean (hD : pte.getLsbD 7 = false) : ∃ d, leafCheck .storeamo priv sum mxr isa pte level = some d := by
  by_cases hA : pte.getLsbD 6 = true
  case neg => exact ⟨_, leafCheck_accessedClear (by simpa using hA)⟩
  by_cases hU : priv = .u ∧ pte.getLsbD 4 = false
  case pos => exact ⟨_, leafCheck_userDenied hA hU.1 hU.2⟩
  have hr : pte.getLsbD 6 = true ∧ (priv = .u → pte.getLsbD 4 = true) := ⟨hA, fun hp => by simpa [hp] using hU⟩
  obtain ⟨d, hd⟩ : ∃ d, purposeCheck .storeamo priv sum mxr pte = some d := by
    rw [purposeCheck_storeamo, if_pos hD]
    split
    · exact ⟨_, rfl⟩
    · split <;> exact ⟨_, rfl⟩
  exact ⟨d, leafCheck_of_purposeCheck_some hr hd⟩

end

/-- The reads of a result are those of the walk, and a walk makes at most `LEVELS` (R161). -/
theorem translate_reads_le (purpose : Purpose) (priv : Priv) (va : Word64) (isa : Isa) (satp : Word64) (sum mxr : Bool)
    (mem : ReadOracle) : (translate purpose priv va isa satp sum mxr mem).2 ≤ levels isa := by
  cases hc : refreshConfig isa satp with
  | none => rw [translate_configError hc]; exact Nat.zero_le _
  | some cfg =>
    obtain ⟨mode, root⟩ := cfg
    by_cases hi : excludedFromTranslation priv = true ∨ mode = .bare
    · rw [translate_identity hc hi]; exact Nat.zero_le _
    · rw [not_or, Bool.not_eq_true] at hi
      rw [translate_walk hc hi.1 hi.2, walk]
      have hpos := levels_pos isa
      obtain ⟨l, reads, -, hr, ⟨pte, he, -⟩ | ⟨d, he⟩⟩ := walkFrom_end isa va mem (levels isa - 1) root 0
      · rw [he, finishWalk_leaf_reads]; omega
      · rw [he]
        simp only [finishWalk]; omega

/-! ## The obligations -/

/-- Settles O53: `walkFrom_end` from the top level. -/
theorem walkMakesOneReadPerLevel : Obligations.WalkMakesOneReadPerLevel := by
  unfold Obligations.WalkMakesOneReadPerLevel
  intro isa va root mem
  have hpos := levels_pos isa
  obtain ⟨level, reads, hl, hr, hend⟩ := walkFrom_end isa va mem (levels isa - 1) root 0
  exact ⟨level, reads, by omega, by omega, by omega, by omega, hend⟩

/-- Settles O54: `translate_identity` and `translate_walk`, and what the leaf checks and the walk say in each clause. -/
theorem translateHasTheStatedProperties : Obligations.TranslateHasTheStatedProperties := by
  unfold Obligations.TranslateHasTheStatedProperties
  intro purpose priv va isa satp sum mxr mem mode root hc r
  refine ⟨fun hm => translate_identity hc (.inr hm), fun hp => translate_identity hc (.inl (by rw [hp]; rfl)), fun hp hm => ?_,
    fun level frame k data hd hV => walkFrom_fault (hd ▸ classify_invalid isa hV)⟩
  have hx : excludedFromTranslation priv = false := by obtain rfl | rfl := hp <;> rfl
  have hr : r = finishWalk purpose priv va isa sum mxr (walk isa va root mem) := translate_walk hc hx hm
  refine ⟨fun d level reads hw => ?_, fun pte level reads hw hA => ?_, fun pte level reads hw hpurp _ hD => ?_, fun hptr => ?_⟩
  · rw [hr, hw]
    rfl
  · rw [hr, hw, finishWalk_leaf_fails (leafCheck_accessedClear hA)]
    exact ⟨_, rfl⟩
  · subst hpurp
    obtain ⟨d, hd⟩ := leafCheck_store_clean (priv := priv) (sum := sum) (mxr := mxr) (isa := isa) (level := level) hD
    rw [hr, hw, finishWalk_leaf_fails hd]
    exact ⟨d, rfl⟩
  · rw [hr, walk, walkFrom_pointers hptr va, Nat.zero_add, Nat.sub_add_cancel (levels_pos isa)]
    rfl

end Sys2Proof.Machine

/-! The walker serves a request as the contract says (43_walk.md R173): every step of a walk keeps what the walk comes to,
whatever the timing, and with a prompt Memory Reader the response is reached in two steps a read. -/

namespace Sys2Proof.Machine

/-! ## What a walk in progress comes to -/

/-- What the rest of the walk comes to for the latched request (R140, R160). -/
def Walker.outcome (mem : ReadOracle) (w : Walker) : Translation × Nat :=
  finishWalk w.qPurpose w.qPriv w.qVaddr w.cIsa w.cSum w.cMxr
    (walkFrom w.cIsa w.qVaddr mem w.wLevel.toNat w.wFrame w.wReads.toNat)

/-- The registers are on the way to the result `r`, or hold it as their response (R173). -/
def Walker.Serves (mem : ReadOracle) (r : Translation × Nat) (w : Walker) : Prop :=
  (w.walking ∧ w.wReads.toNat + w.wLevel.toNat + 1 = levels w.cIsa ∧ w.outcome mem = r) ∨
  (w.fsm = .resp ∧ heldTranslation w = r.1 ∧ w.wReads.toNat = r.2)

/-- What follows a recorded word is what R160 says of the read. -/
theorem receiveAct_classify (isa : Isa) (d : Word64) (w : Walker) :
    (∃ e, classify isa (some d) = .fault e ∧ receiveAct d (pteWord isa d) w = w.endFault e w.wLevel) ∨
    (classify isa (some d) = .leaf (pteWord isa d) ∧ receiveAct d (pteWord isa d) w = w.leafStep (pteWord isa d)) ∨
    (classify isa (some d) = .pointer (ptePpn isa (pteWord isa d)) ∧
      receiveAct d (pteWord isa d) w = w.pointerStep (pteWord isa d)) := by
  rw [classify_eq_ite, receiveAct_eq_ite]
  split
  · exact .inl ⟨_, rfl, rfl⟩
  · split
    · exact .inl ⟨_, rfl, rfl⟩
    · split
      · exact .inr (.inl ⟨rfl, rfl⟩)
      · exact .inr (.inr ⟨rfl, rfl⟩)

section
variable {mem : ReadOracle} {w : Walker} {r : Translation × Nat}

/-- A failed read ends the request as R160 says. -/
theorem receiveError_serves (hc : w.wReads.toNat + w.wLevel.toNat + 1 = levels w.cIsa) (ho : w.outcome mem = r)
    (ha : mem w.wReads.toNat w.readAddr = none) : w.receiveError.Serves mem r := by
  have hk : classify w.cIsa (mem w.wReads.toNat w.readAddr) = .fault .memReadError := by rw [ha]; rfl
  rw [Walker.outcome, walkFrom_fault hk] at ho
  rw [← ho]
  exact .inr ⟨rfl, rfl, wReads_add_one hc⟩

/-- A received word ends the request or takes the walk on as R160 says. -/
theorem receiveAct_serves {d : Word64} (hc : w.wReads.toNat + w.wLevel.toNat + 1 = levels w.cIsa) (ho : w.outcome mem = r)
    (ha : mem w.wReads.toNat w.readAddr = some d) :
    (receiveAct d (pteWord w.cIsa d) (w.recordPte (pteWord w.cIsa d))).Serves mem r := by
  have hreads := wReads_add_one hc
  rw [Walker.outcome] at ho
  obtain ⟨e, hk, hact⟩ | ⟨hk, hact⟩ | ⟨hk, hact⟩ := receiveAct_classify w.cIsa d (w.recordPte (pteWord w.cIsa d)) <;>
    rw [hact] <;> rw [← ha] at hk
  · rw [walkFrom_fault hk] at ho
    rw [← ho]
    exact .inr ⟨rfl, rfl, hreads⟩
  · rw [walkFrom_leaf hk] at ho
    rw [← ho]
    cases hl : leafCheck w.qPurpose w.qPriv w.cSum w.cMxr w.cIsa (pteWord w.cIsa d) w.wLevel.toNat with
    | none =>
      rw [leafStep_of_passes (w := w.recordPte (pteWord w.cIsa d)) hl, finishWalk_leaf_passes hl]
      exact .inr ⟨rfl, rfl, hreads⟩
    | some e =>
      rw [leafStep_of_fails (w := w.recordPte (pteWord w.cIsa d)) hl, finishWalk_leaf_fails hl]
      exact .inr ⟨rfl, rfl, hreads⟩
  · cases hl : w.wLevel.toNat with
    | zero =>
      have h0 : w.wLevel = 0 := BitVec.eq_of_toNat_eq hl
      rw [Walker.readAddr, hl] at hk
      rw [hl, walkFrom_pointer_zero hk] at ho
      rw [pointerStep_level_zero (w := w.recordPte (pteWord w.cIsa d)) _ h0, ← ho]
      exact .inr ⟨rfl, rfl, hreads⟩
    | succ n =>
      have h0 : w.wLevel ≠ 0 := fun h => by simp [h] at hl
      have hdown : (w.wLevel - 1).toNat = n := by
        have := wLevel_sub_one h0
        omega
      rw [Walker.readAddr, hl] at hk
      rw [hl, walkFrom_pointer_succ hk] at ho
      rw [pointerStep_above_zero (w := w.recordPte (pteWord w.cIsa d)) _ h0]
      refine .inl ⟨.inl rfl, ?_, ?_⟩
      · simp only [descend_wReads, recordPte_wReads, descend_wLevel, recordPte_wLevel, descend_cIsa, recordPte_cIsa,
          hreads, hdown]
        omega
      · simp only [Walker.outcome, descend_wReads, recordPte_wReads, descend_wLevel, recordPte_wLevel, hreads, hdown]
        exact ho

end

/-! ## Every run -/

section
variable {mem : ReadOracle}

/-- The accept step sets out for the result of `Translate`, or reaches it (R165, R140). -/
theorem acceptedWalker_serves (s : State) (mem : ReadOracle) : (acceptedWalker s).Serves mem (s.requestResult mem) := by
  obtain ⟨hr, hw⟩ | ⟨mode, root, hr, ⟨hw, hi⟩ | ⟨hw, hp, hm⟩⟩ := acceptedWalker_cases s <;> rw [hw, State.requestResult]
  · rw [translate_configError hr]
    exact .inr ⟨rfl, rfl, rfl⟩
  · rw [translate_identity hr hi]
    exact .inr ⟨rfl, rfl, rfl⟩
  · have htop := topLevel_add_one s.inp.cfgIsa
    rw [translate_walk hr hp hm]
    refine .inl ⟨.inl rfl, ?_, ?_⟩
    · simpa using htop
    · simp only [Walker.outcome, walk, startWalk_wLevel, latchConfig_cIsa, latchRequest_cIsa, ← htop, Nat.add_sub_cancel]
      rfl

/-- A step that keeps to the Memory Reader keeps the walk on the way to its result (R173). -/
theorem step_keeps_serves {s t : State} {r : Translation × Nat} (hs : s.w.Serves mem r) (ha : answersAs mem s)
    (h : step s = .next t) : t.w.Serves mem r := by
  obtain ⟨hrst, hfsm, hanswer⟩ := ha
  obtain ⟨hwalk, hc, ho⟩ | ⟨hf, -⟩ := hs
  case inr => exact absurd hf hfsm
  obtain hf | hf := hwalk
  · obtain ⟨hw, -⟩ | hw := step_of_issue h hrst hf
    · rw [hw]
      exact .inl ⟨.inl hf, hc, ho⟩
    · rw [hw]
      exact .inl ⟨.inr rfl, hc, ho⟩
  · obtain ⟨-, ⟨-, hw⟩ | ⟨hm, hn, hw⟩ | ⟨hm, d, hd, hw⟩⟩ := step_of_wait h hrst hf <;> rw [hw]
    · exact .inl ⟨.inr hf, hc, ho⟩
    · exact receiveError_serves hc ho (by rw [← hanswer hf hm, hn])
    · exact receiveAct_serves hc ho (by rw [← hanswer hf hm, hd])

/-- Every state of a run from an accepting state is that state, or on the way to the result of its request. -/
theorem servedBy_serves {s t : State} (hacc : s.accepting) (h : ServedBy mem s t) :
    t = s ∨ t.w.Serves mem (s.requestResult mem) := by
  induction h with
  | here => exact .inl rfl
  | step _ ha hstep ih =>
    obtain rfl | hs := ih
    · rw [step_of_accepting hstep hacc]
      exact .inr (acceptedWalker_serves _ mem)
    · exact .inr (step_keeps_serves hs ha hstep)

end

/-! ## The run with a prompt Memory Reader -/

/-- One step at the head of a run. -/
theorem core_run_succ {s t : State} (h : step s = .next t) (k : Nat) : core.run (k + 1) s = core.run k t := by
  have hc : core.step s = .next t := h
  simp only [Host.Core.run, hc]

/-- A waiting walker that is answered counts the read, and goes on in `ISSUE` or ends the request. -/
theorem step_wait_answered {s : State} (hr : s.inp.rst = false) (hf : s.w.fsm = .wait) (hm : s.inp.memRespValid = true)
    (hl : s.w.wLevel.toNat < levels s.w.cIsa) :
    ∃ w, step s = .next (tick (s.onWalker fun _ => w)) ∧ w.wReads = s.w.wReads + 1 ∧ w.cIsa = s.w.cIsa ∧
      (w.fsm = .issue ∨ w.fsm = .resp) := by
  cases hd : readerAnswer s with
  | none => exact ⟨s.w.receiveError, step_wait_readError hr hf hm hd, by simp [receiveError_frame]⟩
  | some d =>
    refine ⟨_, step_wait_receive hr hf hm hd hl, ?_, ?_, receiveAct_fsm d _ _⟩
    · simp [receiveAct_frame]
    · simp [receiveAct_frame]

/-- Two steps of a walk with a prompt Memory Reader: the read is taken, and answered from the image. -/
theorem prompt_read {s : State} {n : Nat} {r : Translation × Nat} (hf : s.w.fsm = .issue)
    (hp : s.inp :: s.sched = promptReader (n + 1)) (hs : s.w.Serves (imageOracle s.mem s.w.cIsa) r) :
    ∃ t u, step s = .next t ∧ step t = .next u ∧ u.w.Serves (imageOracle s.mem s.w.cIsa) r ∧
      u.w.wReads.toNat = s.w.wReads.toNat + 1 ∧ u.mem = s.mem ∧ u.w.cIsa = s.w.cIsa ∧
      u.inp = (promptReader n).headD Inputs.quiet ∧ u.sched = (promptReader n).tail ∧ (u.w.fsm = .issue ∨ u.w.fsm = .resp) := by
  obtain ⟨hinp, hsched⟩ : s.inp = Inputs.takesRead ∧ s.sched = Inputs.answersFromImage :: promptReader n := List.cons.inj hp
  have hc : s.w.wReads.toNat + s.w.wLevel.toNat + 1 = levels s.w.cIsa := by
    obtain ⟨-, hc, -⟩ | ⟨hr, -⟩ := hs
    · exact hc
    · simp [hf] at hr
  have htake := step_issue_taken (s := s) (by rw [hinp]; rfl) (by rw [hinp]; rfl) hf (by rw [hinp]; rfl) (by omega)
  set t := tick { s with
    w := { s.w with fsm := .wait }
    hist := ⟨s.w.readAddr, ptesize s.w.cIsa, s.w.wLevel⟩ :: s.hist }
  have ht : t.inp = Inputs.answersFromImage ∧ t.sched = promptReader n ∧ t.mem = s.mem := by
    simp [t, hsched, hinp, Inputs.takesRead, Inputs.quiet]
  obtain ⟨htinp, htsched, htmem⟩ := ht
  have hsa : answersAs (imageOracle s.mem s.w.cIsa) s :=
    ⟨by rw [hinp]; rfl, by simp [hf], fun hw => by simp [hf] at hw⟩
  have hta : answersAs (imageOracle s.mem s.w.cIsa) t := by
    refine ⟨by rw [htinp]; rfl, nofun, fun _ _ => ?_⟩
    have himage : t.inp.memRespFromImage = true := by rw [htinp]; rfl
    rw [readerAnswer, if_pos himage, htmem]
    rfl
  obtain ⟨w, hstep, hreads, hisa, hfsm⟩ :=
    step_wait_answered (s := t) (by rw [htinp]; rfl) rfl (by rw [htinp]; rfl) (show s.w.wLevel.toNat < levels s.w.cIsa by omega)
  refine ⟨t, _, htake, hstep, step_keeps_serves (step_keeps_serves hs hsa htake) hta hstep, ?_, ?_, hisa, ?_, ?_, hfsm⟩
  · rw [tick_w, onWalker_w, hreads]
    exact wReads_add_one hc
  · rw [tick_mem, onWalker_mem, onWalker_inp, htinp, htmem]
    rfl
  · rw [tick_inp, onWalker_sched, htsched]
  · rw [tick_sched, onWalker_sched, htsched]

/-- With a prompt Memory Reader a walk reaches its response in two steps a read. -/
theorem prompt_walk {n : Nat} {s : State} {r : Translation × Nat} (hf : s.w.fsm = .issue)
    (hp : s.inp :: s.sched = promptReader n) (hn : s.w.wLevel.toNat < n) (hs : s.w.Serves (imageOracle s.mem s.w.cIsa) r) :
    ∃ k t, core.run (2 * k) s = .next t ∧ t.w.fsm = .resp ∧ t.w.wReads.toNat = s.w.wReads.toNat + k ∧
      t.w.Serves (imageOracle s.mem s.w.cIsa) r := by
  induction n generalizing s with
  | zero => exact absurd hn (Nat.not_lt_zero _)
  | succ n ih =>
    obtain ⟨t, u, hst, htu, hu, hreads, hmem, hisa, hinp, hsched, hfsm⟩ := prompt_read hf hp hs
    have two : ∀ k, core.run (2 * (k + 1)) s = core.run (2 * k) u := fun k =>
      (core_run_succ hst (2 * k + 1)).trans (core_run_succ htu (2 * k))
    obtain hi | hr := hfsm
    · have hlevel : u.w.wLevel.toNat + 1 = s.w.wLevel.toNat := by
        obtain ⟨-, hcs, -⟩ | ⟨hrs, -⟩ := hs
        · obtain ⟨-, hcu, -⟩ | ⟨hru, -⟩ := hu
          · rw [hisa] at hcu
            omega
          · simp [hi] at hru
        · simp [hf] at hrs
      have hnext : u.inp :: u.sched = promptReader n := by
        cases n with
        | zero => omega
        | succ n => rw [hinp, hsched]; rfl
      rw [← hmem, ← hisa] at hu ⊢
      obtain ⟨k, v, hrun, hv, hk, hserves⟩ := ih hi hnext (by omega) hu
      exact ⟨k + 1, v, (two k).trans hrun, hv, by omega, hserves⟩
    · exact ⟨1, u, two 0, hr, hreads, hu⟩

/-! ## The obligations -/

/-- Settles O55: at the response, `servedBy_serves` says what the registers hold. -/
theorem walkerAgreesWithTranslate : Obligations.WalkerAgreesWithTranslate := by
  unfold Obligations.WalkerAgreesWithTranslate
  intro mem s t hacc hrun ht
  obtain rfl | ⟨hw, -⟩ | ⟨-, hres⟩ := servedBy_serves hacc hrun
  · obtain ⟨-, -, hf, -⟩ := hacc
    simp [hf] at ht
  · simp [Walker.walking, ht] at hw
  · exact hres

/-- Settles O56: the accept step, then `prompt_walk`. -/
theorem promptRequestIsServed : Obligations.PromptRequestIsServed := by
  unfold Obligations.PromptRequestIsServed
  intro s hacc hc hstores hsched r
  have hstep := step_accepting_inContract hacc hc
  set u := tick (s.onWalker fun _ => acceptedWalker s)
  have hisa : u.w.cIsa = s.inp.cfgIsa := by simp [u, acceptedWalker_frame]
  have hmem : u.mem = s.mem := by simp [u, hstores]
  have hreads : u.w.wReads = 0 := by simp [u, acceptedWalker_frame]
  have hserves : u.w.Serves (imageOracle u.mem u.w.cIsa) r := by
    rw [hmem, hisa]
    exact acceptedWalker_serves s _
  have finished : ∀ {k t}, core.run (2 * k) u = .next t → t.w.fsm = .resp → t.w.wReads.toNat = k →
      t.w.Serves (imageOracle u.mem u.w.cIsa) r →
      ∃ t, core.run (1 + 2 * r.2) s = .next t ∧ t.w.fsm = .resp ∧ heldTranslation t.w = r.1 ∧ t.w.wReads.toNat = r.2 ∧
        r.2 ≤ levels s.inp.cfgIsa := fun hrun ht hk hv => by
    obtain ⟨hw, -⟩ | ⟨-, hheld, hr⟩ := hv
    · simp [Walker.walking, ht] at hw
    · rw [← hk, hr, ← core_run_succ hstep, Nat.add_comm] at hrun
      exact ⟨_, hrun, ht, hheld, hr, translate_reads_le _ _ _ _ _ _ _ _⟩
  have hfsm : u.w.fsm = .resp ∨ u.w.fsm = .issue := by
    obtain ⟨hf, -⟩ | ⟨hf, -⟩ | ⟨hf, -⟩ := acceptedWalker_end s
    · exact .inl hf
    · exact .inl hf
    · exact .inr hf
  obtain hf | hf := hfsm
  · exact finished (k := 0) rfl hf (by rw [hreads]; rfl) hserves
  · have hlevel : u.w.wLevel.toNat < 3 := by
      have hl := levels_le_three u.w.cIsa
      obtain ⟨-, hcount, -⟩ | ⟨hr, -⟩ := hserves
      · omega
      · simp [hf] at hr
    have hp : u.inp :: u.sched = promptReader 3 := by
      rw [tick_inp, tick_sched, onWalker_sched, hsched]
      rfl
    obtain ⟨k, t, hrun, ht, hk, hv⟩ := prompt_walk hf hp hlevel hserves
    refine finished hrun ht ?_ hv
    rw [hk, hreads]
    exact Nat.zero_add k

end Sys2Proof.Machine
